-- ==== Sys2Proof/Word.lean ====
section
/-! DEFINITION. The plain types every file of the model uses: bytes, the numbers that name links, records, lanes and phases. -/

namespace Sys2Proof

/-- One byte of a frame, of a request or of stored data. -/
abbrev Byte := BitVec 8

/-- A byte string, first byte first. -/
abbrev Bytes := List Byte

/-- A link pair, 0 to 3 (00_scope.md section 5.2). -/
abbrev LinkId := Fin 4

/-- An association index, 0 to 2047 (R16). -/
abbrev AssocId := Fin 2048

/-- A cipher lane, 0 to 7 (R118). -/
abbrev LaneId := Fin 8

/-- A bank of the Association Store, 0 to 3 (R16). -/
abbrev BankId := Fin 4

/-- A key phase, 0 to 3 (00_scope.md section 5.4). -/
abbrev Phase := Fin 4

/-- `⌈a / b⌉`, for `b` above 0. -/
def ceilDiv (a b : Nat) : Nat := (a + b - 1) / b

/-- The cells that `len` bytes take in a frame buffer (R11, R140): a cell is 128 bytes. -/
def cellsFor (len : Nat) : Nat := ceilDiv len 128

end Sys2Proof
end

