-- ==== Sys2Proof/Config.lean ====
section
/-! DEFINITION. What one part fixes: sizes and bounds the spec gives, and the free values it leaves open (opaque constants, of
which Lean can prove no value). -/

namespace Sys2Proof.Config

/-- Places of an order queue (R108). -/
def queuePlaces : Nat := 128

/-- HELD places of an order queue (R108). -/
def heldPlaces : Nat := 32

/-- Cells of a frame buffer (R142). -/
def bufferCells : Nat := 2048

/-- Places of the request queue (R163). -/
def requestPlaces : Nat := 8

/-- Places of the reply list that QUEUE-FULL replies may use (R163). -/
def refusalPlaces : Nat := 15

/-- Places of the notice queue (R170). -/
def noticePlaces : Nat := 32

/-- The longest reply body (R160, R167). -/
def replyBodyMax : Nat := 1024

/-- The most entries of one flow-table chain (R96). -/
def chainMax : Nat := 8

/-- Overflow entries of the flow table (R96). -/
def overflowEntries : Nat := 3072

/-- The greatest packet number (R67). -/
def pnMax : Nat := 0xFFFFFFFF

/-- The greatest value of a 48-bit count (R22, R147). -/
def max48 : Nat := 2 ^ 48 - 1

/-- The greatest value of a 32-bit count (R96, R156). -/
def max32 : Nat := 2 ^ 32 - 1

/-- Bit times of 10 ps (100 Gb/s) in one microsecond: the unit of the model's clock (log 1). -/
def usTicks : Nat := 100000

/-- Bit times in one millisecond. -/
def msTicks : Nat := 100000000

/-- Bit times in one PAUSE quantum (00_scope.md section 5.5). -/
def quantumTicks : Nat := 512

/-- FREE VALUE (log 7): the byte by which STORE-STATUS says that no bank operates (R44 gives no code). -/
opaque noBank : Byte

/-- FREE VALUE (log 7): the status byte of the last install result when there is none (R44 gives no code). -/
opaque noInstall : Byte

/-- FREE VALUE (log 7): the number by which READ-LINK says that a transmit is not paused (R149 gives no code). -/
opaque notPaused : Nat

/-- FREE VALUE (log 7): the number by which READ-ASSOC reports a remaining grace time, given in bit times (R38 gives no unit). -/
opaque graceNumber : Nat → Nat

/-- FREE VALUE (log 7): the number READ-ASSOC reports, at a time of the clock, as the remaining grace time of an OLD key that is still in
GRACE and whose timer RETIRE or a purge has stopped (R38, R54, R86 and R123 give no number for it). -/
opaque stoppedGrace : Nat → Nat

/-- FREE VALUE (log 8): whether a marker byte that is neither 0 nor 1 stands for a given value (R166 gives 0 and 1 only). -/
opaque strayMarker : Byte → Bool

/-- FREE VALUE (log 8): whether an enabled byte of a range rule that is neither 0 nor 1 enables the rule (R166). -/
opaque strayEnabled : Byte → Bool

end Sys2Proof.Config
end

