-- ==== Sys2Proof/Syntax.lean ====
section
/-! DEFINITION. The commands of the Tirkal 4410: one constructor for each row of spec/opcode_table.json. A row that stands for an
event outside the part, or for a step of one of several engines, carries what comes from outside or which engine it is. A row that
stands for a request carries nothing: it executes the request at the head of the request queue (R164, log 2). -/

namespace Sys2Proof

/-- The two directions of a link (00_scope.md section 5.2). -/
inductive Dir where
  | egress
  | ingress
  deriving DecidableEq, Repr

/-- The two ports of a link (00_scope.md section 5.2). -/
inductive Side where
  | rack
  | campus
  deriving DecidableEq, Repr

/-- The commands, in the order of the table. -/
inductive Instr where
  /-- POWER_ON (R183): the levels of the CTRL-RATE and WRAP-ONLY straps at power-on. -/
  | powerOn (ctrlRate wrapOnly : Bool)
  /-- HARD_RESET (R183): the RESET input is asserted. -/
  | hardReset
  /-- START_UP (R175): RESET is released, with the levels of the two straps. -/
  | startUp (ctrlRate wrapOnly : Bool)
  /-- SELF_TEST_COMPLETE (R175): bit i of `passed` is lane i's result, `unwrap` the unwrap test's. -/
  | selfTestComplete (passed : BitVec 8) (unwrap : Bool)
  /-- LINK_SIGNAL_APPEARS (R138). -/
  | linkSignalAppears (side : Side) (n : LinkId)
  /-- LINK_SIGNAL_LOST (R139): `receiving` says that a frame was being received. -/
  | linkSignalLost (side : Side) (n : LinkId) (receiving : Bool)
  /-- FRAME_ARRIVAL (R140): the bytes received, from the destination address through the FCS. -/
  | frameArrival (side : Side) (n : LinkId) (bytes : Bytes)
  /-- PAUSE_DEADLINE (R146). -/
  | pauseDeadline (side : Side) (n : LinkId)
  /-- PAUSE_RESEND_INTERVAL (R145), of the buffer of link `n` and direction `d`. -/
  | pauseResendInterval (d : Dir) (n : LinkId)
  /-- PAUSE_FRAME_SEND (R145), by the port on `side` of link `n`. -/
  | pauseFrameSend (side : Side) (n : LinkId)
  /-- EGRESS_CLASSIFICATION (R89) of the oldest stored rack frame of link `n`. -/
  | egressClassification (n : LinkId)
  /-- INGRESS_CLASSIFICATION (R102) of the oldest stored campus frame of link `n`. -/
  | ingressClassification (n : LinkId)
  /-- LANE_GRANT (R119). -/
  | laneGrant
  /-- LANE_COMPLETE (R121). -/
  | laneComplete (l : LaneId)
  /-- HEAD_RELEASE (R132) of the VERIFIED head of link `n`. -/
  | headRelease (n : LinkId)
  /-- FRAME_TRANSMIT_START (R114, R115). -/
  | frameTransmitStart (d : Dir) (n : LinkId)
  /-- FRAME_TRANSMIT_END (R114, R115). -/
  | frameTransmitEnd (d : Dir) (n : LinkId)
  /-- HOLD_DEADLINE (R81) of the egress hold of record `a`. -/
  | holdDeadline (a : AssocId)
  /-- INGRESS_HOLD_DEADLINE (R127) of the ingress hold of record `a`. -/
  | ingressHoldDeadline (a : AssocId)
  /-- GRACE_EXPIRY (R137) of the OLD key of record `a`. -/
  | graceExpiry (a : AssocId)
  /-- RETIRING_KEY_DESTROYED (R84). -/
  | retiringKeyDestroyed (a : AssocId)
  /-- DEFERRED_ROLLOVER (R73). -/
  | deferredRollover (a : AssocId)
  /-- DEFERRED_INGRESS_ROLLOVER (R136). -/
  | deferredIngressRollover (a : AssocId)
  /-- DRAIN_END (R87). -/
  | drainEnd (a : AssocId)
  /-- UNWRAP_DONE (R48). -/
  | unwrapDone
  /-- INSTALL_COMPLETE (R50). -/
  | installComplete
  /-- PURGE_VISIT (R53). -/
  | purgeVisit
  /-- PURGE_RECORD_FINISHED (R55). -/
  | purgeRecordFinished
  /-- COVER_TIMER_EXPIRY (R157). -/
  | coverTimerExpiry (n : LinkId)
  /-- ZEROIZE_INPUT (R180): a low-to-high transition of the ZEROIZE input. -/
  | zeroizeInput
  /-- PROGRAMMING_COMPLETE (R176). -/
  | programmingComplete
  /-- HOST_FRAME_RECEIVED (R161): the bytes that arrive on the control line, the last of them the last of a frame. -/
  | hostFrameReceived (bytes : Bytes)
  /-- INTER_BYTE_TIMEOUT (R162): the bytes that arrive before a gap of more than 2 ms. -/
  | interByteTimeout (bytes : Bytes)
  /-- CONTROL_FRAME_SENT (R169). -/
  | controlFrameSent
  /-- UNKNOWN_REQUEST (R165). -/
  | unknownRequest
  /-- IDENTIFY (R172). -/
  | identify
  /-- DEVICE-STATUS (R173). -/
  | deviceStatus
  /-- SOFT-RESET (R182). -/
  | softReset
  /-- ZEROIZE (R180). -/
  | zeroize
  /-- SET-LINK-MODE (R151). -/
  | setLinkMode
  /-- SET-LINK-PARAMS (R153). -/
  | setLinkParams
  /-- READ-LINK (R149). -/
  | readLink
  /-- READ-COUNTERS (R148). -/
  | readCounters
  /-- SET-RANGE-RULE (R94). -/
  | setRangeRule
  /-- ADD-FLOW (R99). -/
  | addFlow
  /-- REMOVE-FLOW (R100). -/
  | removeFlow
  /-- READ-FLOW (R101). -/
  | readFlow
  /-- OPEN-ASSOC (R35). -/
  | openAssoc
  /-- SET-ASSOC (R37). -/
  | setAssoc
  /-- READ-ASSOC (R38). -/
  | readAssoc
  /-- TEST-ASSOC (R39). -/
  | testAssoc
  /-- INSTALL-KEY (R46). -/
  | installKey
  /-- ROLLOVER (R83). -/
  | rollover
  /-- RETIRE (R86). -/
  | retire
  /-- RELEASE (R40). -/
  | release
  /-- PURGE (R52). -/
  | purge
  /-- PURGE-SUSPEND (R57). -/
  | purgeSuspend
  /-- PURGE-RESUME (R58). -/
  | purgeResume
  /-- PURGE-CANCEL (R59). -/
  | purgeCancel
  /-- STORE-STATUS (R44). -/
  | storeStatus
  /-- PROVISION-WRITE (R177). -/
  | provisionWrite
  /-- PROVISION-LOCK (R178). -/
  | provisionLock
  /-- PROVISION-READ (R179). -/
  | provisionRead
  /-- FRAME_LENGTH_OUT_OF_RANGE (R162): the bytes that arrive, the last of them a second LENGTH byte. -/
  | frameLengthOutOfRange (bytes : Bytes)
  /-- FRAMING_ERROR (R162): the bytes that arrive before the byte without a valid stop bit. -/
  | framingError (bytes : Bytes)
  deriving DecidableEq, Repr

end Sys2Proof
end

