-- ==== Sys2Proof/Decode.lean ====
section
/-! DEFINITION. Words as commands. No row of spec/opcode_table.json gives a command any bits (its fields are empty and it has no
pattern), so no word spells a command (log 25). The bytes of control-line requests are read in Machine/Line.lean and
Machine/Operands.lean. -/

namespace Sys2Proof

/-- The command that a word spells by the table's bits: none, since no row has bits. -/
def decodeTableWord (_nbits _w : Nat) : Option Instr := none

end Sys2Proof
end

