-- ==== Sys2Proof/Machine/Bytes.lean ====
section
/-! DEFINITION. Numbers as bytes, most significant byte first (00_scope.md section 5.1, R166), and bytes of frames by offset. -/

namespace Sys2Proof.Machine

/-- The low `width` bytes of `v`, most significant byte first. -/
def beBytes : (width v : Nat) → Bytes
  | 0, _ => []
  | w + 1, v => BitVec.ofNat 8 (v / 256 ^ w) :: beBytes w v

/-- A byte string read as a number, most significant byte first. -/
def beNat (bs : Bytes) : Nat := bs.foldl (fun acc b => acc * 256 + b.toNat) 0

/-- A number in 1, 2, 4 and 6 bytes (R166). -/
def u8 (v : Nat) : Bytes := beBytes 1 v

/-- A number in 2 bytes (R166). -/
def u16 (v : Nat) : Bytes := beBytes 2 v

/-- A number in 4 bytes (R166). -/
def u32 (v : Nat) : Bytes := beBytes 4 v

/-- A 48-bit count (R166). -/
def u48 (v : Nat) : Bytes := beBytes 6 v

/-- A yes/no value: 0 no, 1 yes (R166). -/
def yesNo (b : Bool) : Bytes := [if b then 1 else 0]

/-- An association index, 0xFFFF when it is none (R166). -/
def assocCode : Option AssocId → Bytes
  | some a => u16 a.val
  | none => u16 0xFFFF

/-- `len` zero bytes. -/
def zeros (len : Nat) : Bytes := List.replicate len 0

/-- A report of fixed size: its fields, then zeros (R166). -/
def padTo (size : Nat) (bs : Bytes) : Bytes := bs ++ zeros (size - bs.length)

/-- The byte at an offset. -/
def byteAt (bs : Bytes) (i : Nat) : Byte := bs.getD i 0

/-- `len` bytes from an offset. -/
def slice (bs : Bytes) (start len : Nat) : Bytes := (bs.drop start).take len

/-- The number in `len` bytes from an offset. -/
def numAt (bs : Bytes) (start len : Nat) : Nat := beNat (slice bs start len)

/-- Bytewise exclusive OR, as long as the shorter string. -/
def xorBytes (a b : Bytes) : Bytes := List.zipWith (· ^^^ ·) a b

/-- An association index, when the number is one (R16). -/
def toAssoc? (i : Nat) : Option AssocId := if h : i < 2048 then some ⟨i, h⟩ else none

/-- A link number, when the number is one. -/
def toLink? (i : Nat) : Option LinkId := if h : i < 4 then some ⟨i, h⟩ else none

end Sys2Proof.Machine
end

