-- ==== Sys2Proof/Machine/Crc.lean ====
section
/-! DEFINITION. The CRC-16 of the control line (R160) and the frame check sequence of Ethernet. The manual names the latter and does
not restate it (00_scope.md section 1.3); it is PRESUMED from IEEE 802.3 (log 5, log 6). -/

namespace Sys2Proof.Machine

/-- One bit of the CRC-16 of R160: polynomial 0x1021, most significant bit first. -/
def crc16Bit (c : BitVec 16) : BitVec 16 := (c <<< 1) ^^^ (if c.getLsbD 15 then 0x1021 else 0)

/-- One byte of the CRC-16. -/
def crc16Byte (c : BitVec 16) (b : Byte) : BitVec 16 :=
  crc16Bit <| crc16Bit <| crc16Bit <| crc16Bit <| crc16Bit <| crc16Bit <| crc16Bit <| crc16Bit (c ^^^ (b.zeroExtend 16 <<< 8))

/-- R160: the CRC-16 over a byte string, initial value 0xFFFF, as its two bytes most significant first. -/
def crc16 (bs : Bytes) : Bytes := u16 (bs.foldl crc16Byte 0xFFFF).toNat

/-- One bit of the Ethernet CRC, least significant bit first. -/
def crc32Bit (c : BitVec 32) : BitVec 32 := (c >>> 1) ^^^ (if c.getLsbD 0 then 0xEDB88320 else 0)

/-- One byte of the Ethernet CRC. -/
def crc32Byte (c : BitVec 32) (b : Byte) : BitVec 32 :=
  crc32Bit <| crc32Bit <| crc32Bit <| crc32Bit <| crc32Bit <| crc32Bit <| crc32Bit <| crc32Bit (c ^^^ b.zeroExtend 32)

/-- The frame check sequence over a byte string, as the four bytes that follow it on the wire. -/
def ethernetFcs (bs : Bytes) : Bytes := (beBytes 4 (~~~ (bs.foldl crc32Byte 0xFFFFFFFF)).toNat).reverse

/-- A frame with its FCS appended. -/
def withFcs (bs : Bytes) : Bytes := bs ++ ethernetFcs bs

/-- Whether a received frame's last four bytes are the FCS of the bytes before them (R140). -/
def fcsMatches (bs : Bytes) : Bool := ethernetFcs (bs.take (bs.length - 4)) == bs.drop (bs.length - 4)

end Sys2Proof.Machine
end

