-- ==== Sys2Proof/Machine/Aes.lean ====
section
/-! DEFINITION. AES-256 encryption of one block. The manual names the cipher and does not restate it (00_scope.md section 1.3); the
definition here is PRESUMED from the standard of that name, FIPS 197 (log 5). Blocks and keys are byte strings. -/

namespace Sys2Proof.Machine

/-- The S-box, sixteen bytes to a row, read from the left. -/
def aesSBoxRows : List Nat :=
  [0x637c777bf26b6fc53001672bfed7ab76, 0xca82c97dfa5947f0add4a2af9ca472c0, 0xb7fd9326363ff7cc34a5e5f171d83115,
   0x04c723c31896059a071280e2eb27b275, 0x09832c1a1b6e5aa0523bd6b329e32f84, 0x53d100ed20fcb15b6acbbe394a4c58cf,
   0xd0efaafb434d338545f9027f503c9fa8, 0x51a3408f929d38f5bcb6da2110fff3d2, 0xcd0c13ec5f974417c4a77e3d645d1973,
   0x60814fdc222a908846eeb814de5e0bdb, 0xe0323a0a4906245cc2d3ac629195e479, 0xe7c8376d8dd54ea96c56f4ea657aae08,
   0xba78252e1ca6b4c6e8dd741f4bbd8b8a, 0x703eb5664803f60e613557b986c11d9e, 0xe1f8981169d98e949b1e87e9ce5528df,
   0x8ca1890dbfe6426841992d0fb054bb16]

/-- The S-box applied to a byte. -/
def aesSub (b : Byte) : Byte :=
  BitVec.ofNat 8 (aesSBoxRows.getD (b.toNat / 16) 0 >>> (8 * (15 - b.toNat % 16)))

/-- Multiplication by x in the cipher's field. -/
def aesXtime (b : Byte) : Byte := (b <<< 1) ^^^ (if b.getLsbD 7 then 0x1b else 0)

/-- ShiftRows on a state held column by column. -/
def aesShiftRows (s : Bytes) : Bytes :=
  [0, 5, 10, 15, 4, 9, 14, 3, 8, 13, 2, 7, 12, 1, 6, 11].map (byteAt s)

/-- MixColumns on one column. -/
def aesMixColumn (a b c d : Byte) : Bytes :=
  let t := a ^^^ b ^^^ c ^^^ d
  [a ^^^ t ^^^ aesXtime (a ^^^ b), b ^^^ t ^^^ aesXtime (b ^^^ c), c ^^^ t ^^^ aesXtime (c ^^^ d), d ^^^ t ^^^ aesXtime (d ^^^ a)]

/-- MixColumns on a state. -/
def aesMixColumns : Bytes → Bytes
  | a :: b :: c :: d :: rest => aesMixColumn a b c d ++ aesMixColumns rest
  | _ => []

/-- The round constants of the eight-word schedule, in order. -/
def aesRoundConstant (i : Nat) : Byte := 1#8 <<< (i - 1)

/-- The next eight words of the key schedule from the last eight (`block`, 32 bytes): `i` counts the steps from 1. -/
def aesNextWords (i : Nat) (block : Bytes) : Bytes :=
  let w (j : Nat) := slice block (4 * j) 4
  let rot := match w 7 with
    | a :: rest => rest ++ [a]
    | [] => []
  let first := match rot.map aesSub with
    | a :: rest => (a ^^^ aesRoundConstant i) :: rest
    | [] => []
  let w0 := xorBytes (w 0) first
  let w1 := xorBytes (w 1) w0
  let w2 := xorBytes (w 2) w1
  let w3 := xorBytes (w 3) w2
  let w4 := xorBytes (w 4) (w3.map aesSub)
  let w5 := xorBytes (w 5) w4
  let w6 := xorBytes (w 6) w5
  let w7 := xorBytes (w 7) w6
  w0 ++ w1 ++ w2 ++ w3 ++ w4 ++ w5 ++ w6 ++ w7

/-- `steps` further blocks of the key schedule, from block `i` on. -/
def aesScheduleFrom : (steps i : Nat) → Bytes → Bytes
  | 0, _, _ => []
  | k + 1, i, block =>
    let next := aesNextWords i block
    next ++ aesScheduleFrom k (i + 1) next

/-- The key schedule (R49): fifteen round keys of 16 bytes, and 16 bytes more than the rounds use. -/
def aesSchedule (key : Bytes) : Bytes := key ++ aesScheduleFrom 7 1 key

/-- The rounds from round `r` on, `k` full ones and the last. -/
def aesRounds (schedule : Bytes) : (k r : Nat) → Bytes → Bytes
  | 0, r, s => xorBytes (aesShiftRows (s.map aesSub)) (slice schedule (16 * r) 16)
  | k + 1, r, s =>
    aesRounds schedule k (r + 1) (xorBytes (aesMixColumns (aesShiftRows (s.map aesSub))) (slice schedule (16 * r) 16))

/-- AES-256 encryption of a 16-byte block under a 32-byte key. -/
def aesEncrypt (key block : Bytes) : Bytes :=
  let schedule := aesSchedule key
  aesRounds schedule 13 1 (xorBytes block (slice schedule 0 16))

end Sys2Proof.Machine
end

