-- ==== Sys2Proof/Machine/Gcm.lean ====
section
/-! DEFINITION. Galois/Counter Mode as R6 lays it out, the unwrap of R48 and the check values of R49 and R177. The hash itself is
PRESUMED from the standard of that name, NIST SP 800-38D (log 5). -/

namespace Sys2Proof.Machine

/-- `bytes` zero-filled to a multiple of 16 bytes (R6). -/
def fill16 (bs : Bytes) : Bytes := bs ++ zeros ((16 - bs.length % 16) % 16)

/-- A block as a 128-bit string, first byte most significant. -/
def blockBits (bs : Bytes) : BitVec 128 := BitVec.ofNat 128 (beNat bs)

/-- One bit of the multiplication in the field of the GCM hash: `z` gathers, `v` is the multiplicand shifted so far. -/
def ghashMulFrom (x : BitVec 128) : (k : Nat) → (z v : BitVec 128) → BitVec 128
  | 0, z, _ => z
  | k + 1, z, v =>
    let z' := if x.getLsbD k then z ^^^ v else z
    let v' := (v >>> 1) ^^^ (if v.getLsbD 0 then 0xe1000000000000000000000000000000 else 0)
    ghashMulFrom x k z' v'

/-- Multiplication in the field of the GCM hash. -/
def ghashMul (x y : BitVec 128) : BitVec 128 := ghashMulFrom x 128 0 y

/-- The hash over `k` blocks of `bs`, from `acc`. -/
def ghashBlocks (h : BitVec 128) : (k : Nat) → Bytes → BitVec 128 → BitVec 128
  | 0, _, acc => acc
  | k + 1, bs, acc => ghashBlocks h k (bs.drop 16) (ghashMul (acc ^^^ blockBits (bs.take 16)) h)

/-- R6 step 3: the hash over the AAD, the ciphertext and the length block. -/
def ghash (hashKey aad ct : Bytes) : Bytes :=
  let text := fill16 aad ++ fill16 ct ++ beBytes 8 (8 * aad.length) ++ beBytes 8 (8 * ct.length)
  beBytes 16 (ghashBlocks (blockBits hashKey) (text.length / 16) text 0).toNat

/-- Counter mode over `k` blocks, from counter value `c` (R6 step 2). -/
def ctrBlocks (key nonce : Bytes) : (k c : Nat) → Bytes → Bytes
  | 0, _, _ => []
  | k + 1, c, bs =>
    xorBytes (bs.take 16) (aesEncrypt key (nonce ++ beBytes 4 c)) ++ ctrBlocks key nonce k (c + 1) (bs.drop 16)

/-- R6 step 2: counter mode from the counter block whose last four bytes hold 2; encryption and decryption alike. -/
def gcmCrypt (key nonce text : Bytes) : Bytes := ctrBlocks key nonce (ceilDiv text.length 16) 2 text

/-- R6 step 4: the tag of a ciphertext. -/
def gcmTag (key hashKey nonce aad ct : Bytes) : Bytes :=
  xorBytes (ghash hashKey aad ct) (aesEncrypt key (nonce ++ beBytes 4 1))

/-- R6 step 1, R49: the hash key, the encryption of an all-zero block. -/
def hashKeyOf (key : Bytes) : Bytes := aesEncrypt key (zeros 16)

/-- R49, R177: the check value, the first 3 bytes of the encryption of a block of 0x5C bytes. -/
def checkValue (key : Bytes) : Bytes := (aesEncrypt key (List.replicate 16 0x5C)).take 3

/-- R48 step 1: the candidate key and salt, 40 bytes, from the integrity value and the enciphered bytes. -/
def unwrapCandidate (kwk integrity sealed : Bytes) : Bytes :=
  let block (i : Nat) := aesEncrypt kwk (integrity ++ zeros 7 ++ u8 i)
  xorBytes (block 1 ++ block 2 ++ block 3) sealed

/-- R48 step 3: the chained encryption of `k` blocks of `bs`, from the output `acc` before them. -/
def chainEncrypt (kwk : Bytes) : (k : Nat) → Bytes → Bytes → Bytes
  | 0, _, acc => acc
  | k + 1, bs, acc => chainEncrypt kwk k (bs.drop 16) (aesEncrypt kwk (xorBytes (bs.take 16) acc))

/-- R48 step 2: the binding block of an index and a phase. -/
def bindingBlock (index phase : Nat) : Bytes := [0xC5, 0x3A] ++ u16 index ++ u8 phase ++ zeros 11

/-- R48 step 4: the recomputed integrity value of a candidate. -/
def integrityOf (kwk candidate : Bytes) (index phase : Nat) : Bytes :=
  (chainEncrypt kwk 4 (bindingBlock index phase ++ candidate ++ zeros 8) (zeros 16)).take 8

/-- R48: the key and salt of a wrapped secret, when its integrity check passes. -/
def unwrap (kwk integrity sealed : Bytes) (index phase : Nat) : Option (Bytes × Bytes) :=
  let candidate := unwrapCandidate kwk integrity sealed
  if integrityOf kwk candidate index phase = integrity then some (candidate.take 32, candidate.drop 32) else none

end Sys2Proof.Machine
end

