-- ==== Sys2Proof/Machine/State.lean ====
section
/-! DEFINITION. Everything the spec gives the part to hold, as plain data, and its value after reset. INVENTORY.md lists each item
with its rule. -/

namespace Sys2Proof.Machine

/-! ### The Association Store (chapters 2, 4 and 7) -/

/-- The seven record states (R23), in the order of Table 2-1. -/
inductive RecState where
  | empty
  | opened
  | live
  | exhausted
  | draining
  | purging
  | barred
  deriving DecidableEq, Repr

/-- The states of a slot that holds a key (R28). An ABSENT slot is `none`. -/
inductive KeyState where
  | loading
  | ready
  | inUse
  | spent
  | retiring
  | grace
  deriving DecidableEq, Repr

/-- The acceptance window of an ingress key (R25, R128): size W, highest accepted H, and the accepted packet numbers in its span. -/
structure Window where
  size : Nat
  high : Nat
  marked : List Nat
  deriving DecidableEq, Repr

/-- A key in a slot (R25), with the markers of R63 and R123. -/
structure Key where
  state : KeyState
  phase : Phase
  material : Bytes
  hashKey : Bytes
  salt : Bytes
  check : Bytes
  /-- next PN; 0 when the key is SPENT (R67) -/
  n : Nat
  /-- blocks used U -/
  u : Nat
  soft : Bool
  crossed : Bool
  tagFailed : Bool
  inFlight : Nat
  window : Window
  /-- the grace deadline while its timer runs (R137) -/
  graceAt : Option Nat
  deriving DecidableEq, Repr

/-- The hold policy (R19). -/
inductive HoldPolicy where
  | hold
  | discard
  deriving DecidableEq, Repr

/-- The parameters of a record (Table 2-2). -/
structure AssocParams where
  pinned : Bool
  autoRollover : Bool
  holdPolicy : HoldPolicy
  expose : Bool
  /-- pad quantum q -/
  quantum : Nat
  /-- soft PN threshold S -/
  softPn : Nat
  /-- block-cap exponent e -/
  capExp : Nat
  /-- window size W -/
  windowSize : Nat
  deriving DecidableEq, Repr

/-- The defaults of Table 2-2. -/
def AssocParams.default : AssocParams :=
  { pinned := false, autoRollover := true, holdPolicy := .hold, expose := false, quantum := 0, softPn := 0xE0000000, capExp := 36,
    windowSize := 64 }

/-- An association record (Table 2-1), with the rollover-wanted marker of R63 and R123. -/
structure Record where
  state : RecState
  dir : Dir
  link : LinkId
  channel : Nat
  generation : Nat
  params : AssocParams
  wanted : Bool
  frames : Nat
  tagFails : Nat
  cur : Option Key
  nxt : Option Key
  old : Option Key
  deriving DecidableEq, Repr

/-- An EMPTY record of generation `g` (Table 2-1). -/
def Record.blank (g : Nat) : Record :=
  { state := .empty, dir := .egress, link := 0, channel := 0, generation := g, params := AssocParams.default, wanted := false,
    frames := 0, tagFails := 0, cur := none, nxt := none, old := none }

/-! ### The control line's codes (chapter 10) -/

/-- The status codes of Table 10-2. -/
inductive Status where
  | ok
  | started
  | condFalse
  | unknownRequest
  | badLength
  | badField
  | badIndex
  | badState
  | notConditional
  | storeBusy
  | inPurge
  | phaseInUse
  | retiringBusy
  | unwrapFailed
  | clearRefused
  | notProvisioned
  | locked
  | alreadyWritten
  | duplicate
  | tableFull
  | chainTooLong
  | notFound
  | queueFull
  | notRunning
  deriving DecidableEq, Repr

/-- The FLAGS byte of a reply (R160). -/
structure Flags where
  clamped : Bool
  held : Bool
  repeatIgnored : Bool
  deriving DecidableEq, Repr

/-! ### The bank operation unit (chapter 3) -/

/-- Where an install's secret stands: wrapped, waiting for its unwrap (R48), or unwrapped and being expanded (R49). -/
inductive InstallStage where
  | unwrapping (integrity : Bytes) (sealed : Bytes)
  | expanding (key : Bytes) (salt : Bytes)
  deriving DecidableEq, Repr

/-- The install in progress (R47). -/
structure Install where
  index : AssocId
  /-- whether the target is NXT; otherwise it is CUR -/
  toNxt : Bool
  phase : Phase
  stage : InstallStage
  deriving DecidableEq, Repr

/-- The purge record (R42, R52); `visiting` says that the record at the cursor has been taken and is draining (R54, R55). -/
structure Purge where
  bank : BankId
  first : Nat
  last : Nat
  skipPinned : Bool
  barred : Bool
  active : Bool
  cursor : Nat
  purged : Nat
  skipped : Nat
  visiting : Bool
  deriving DecidableEq, Repr

/-- The pending stop of a purge (R42). -/
inductive Stop where
  | none
  | suspend
  | cancel
  deriving DecidableEq, Repr

/-- The last purge result (R42). -/
inductive PurgeResult where
  | none
  | done
  | cancelled
  | zeroized
  deriving DecidableEq, Repr

/-- The bank operation unit (R42). The bank states follow from `install` and `purge` (R43). -/
structure BankUnit where
  install : Option Install
  purge : Option Purge
  stop : Stop
  lastPurge : PurgeResult
  lastInstall : Option (Status × AssocId)
  deriving DecidableEq, Repr

/-- The bank operation unit after a hard reset (R42). -/
def BankUnit.idle : BankUnit :=
  { install := none, purge := none, stop := .none, lastPurge := .none, lastInstall := none }

/-! ### Classification tables (chapter 5) -/

/-- A classification verdict (R90, R96). -/
inductive Verdict where
  | encrypt
  | bypass
  | discard
  deriving DecidableEq, Repr

/-- The field a range rule tests (Table 5-2). -/
inductive RuleField where
  | vidCode
  | etherType
  | daByte
  deriving DecidableEq, Repr

/-- The sense of a range rule (R93). -/
inductive Sense where
  | inside
  | outside
  deriving DecidableEq, Repr

/-- The verdict of a range rule (R93). -/
inductive RuleVerdict where
  | bypass
  | discard
  deriving DecidableEq, Repr

/-- A range rule (R93). Bit i of `links` is link i; bit 0 of `dirs` is egress and bit 1 ingress (R166). -/
structure RangeRule where
  enabled : Bool
  links : BitVec 4
  dirs : BitVec 2
  field : RuleField
  low : Nat
  high : Nat
  sense : Sense
  verdict : RuleVerdict
  deriving DecidableEq, Repr

/-- A range rule after a hard reset (R95). -/
def RangeRule.blank : RangeRule :=
  { enabled := false, links := 0, dirs := 0, field := .vidCode, low := 0, high := 0, sense := .inside, verdict := .discard }

/-- The key of a flow entry (R96): link, VID code, and a destination address or ANY (`none`). -/
structure FlowKey where
  link : LinkId
  vid : Nat
  addr : Option Bytes
  deriving DecidableEq, Repr

/-- A flow entry (R96). Its next reference is the entry after it in its chain (log 10). -/
structure FlowEntry where
  key : FlowKey
  verdict : Verdict
  assoc : Option AssocId
  hits : Nat
  deriving DecidableEq, Repr

/-- The flow table (R96): the chain of each bucket, head first, and how many overflow entries are free. -/
structure FlowTable where
  chains : Vector (List FlowEntry) 1024
  free : Nat
  deriving DecidableEq, Repr

/-- The flow table after a hard reset (R96). -/
def FlowTable.blank : FlowTable := { chains := Vector.replicate 1024 [], free := Config.overflowEntries }

/-! ### Order queues (chapter 6) -/

/-- The discard reasons, in the order of Table 8-2. -/
inductive Reason where
  | badFcs
  | runt
  | oversize
  | noBuffer
  | orderFull
  | halted
  | coverMode
  | ruleDiscard
  | flowDiscard
  | bypassBarred
  | clearBarred
  | noKey
  | exhausted
  | purged
  | retired
  | holdFull
  | holdExpired
  | tooLarge
  | badHeader
  | unknownPhase
  | badPn
  | late
  | duplicate
  | tagFail
  | badPad
  | portDown
  | zeroized
  deriving DecidableEq, Repr

/-- The kind of an order-queue entry (R107). -/
inductive EntryKind where
  | frame
  | cover
  deriving DecidableEq, Repr

/-- The verdict of an order-queue entry (R107). -/
inductive EntryVerdict where
  | encrypt
  | opening
  | bypass
  deriving DecidableEq, Repr

/-- The states of an order-queue entry (R111, R112). A HELD entry carries its hold times (R79, R125), an IN-LANE entry its lane,
a DROPPED entry its reason. -/
inductive EntryState where
  | held (start deadline : Nat)
  | waiting
  | inLane (l : LaneId)
  | done
  | verified
  | dropped (why : Reason)
  deriving DecidableEq, Repr

/-- The envelope values kept with an entry (R7, R103, R107). An ingress entry uses `x`, `padded` and `ctLen`. -/
structure EnvValues where
  x : Bool
  /-- plaintext length P before padding -/
  plain : Nat
  z : Nat
  padded : Bool
  /-- plaintext and ciphertext length P′ -/
  ctLen : Nat
  /-- envelope length E -/
  envLen : Nat
  /-- block charge B -/
  charge : Nat
  deriving DecidableEq, Repr

/-- An order-queue entry (R107). `key` is the slot reference: the phase of the key the entry is bound to, which names it whatever
role it moves to (R26, R123, log 11). `data` is what its cells hold: the frame as stored, the envelope without its FCS once a lane has
built it, the header and plaintext once a lane has verified it, the restored frame without its FCS once it is handed over. -/
structure Entry where
  kind : EntryKind
  verdict : EntryVerdict
  assoc : Option AssocId
  key : Option Phase
  pn : Option Nat
  /-- the key phase of a received header (R103) -/
  phase : Phase
  env : EnvValues
  cells : Nat
  /-- the cover code a cover entry was made with (R155) -/
  coverCode : Nat
  data : Bytes
  state : EntryState
  deriving DecidableEq, Repr

/-! ### Links (chapters 8 and 9) -/

/-- The mode of a link (R150). -/
inductive Mode where
  | halt
  | cover
  | protect
  | selective
  deriving DecidableEq, Repr

/-- The parameters of one buffer (R143). -/
structure BufferParams where
  xoff : Nat
  xon : Nat
  quanta : Nat
  deriving DecidableEq, Repr

/-- The parameters of a link (Table 9-1). -/
structure LinkParams where
  envType : Nat
  rackMax : Nat
  campusMax : Nat
  defVerdict : Verdict
  defAssoc : Option AssocId
  /-- in µs -/
  holdTimeout : Nat
  /-- in ms -/
  graceInterval : Nat
  egressBuf : BufferParams
  ingressBuf : BufferParams
  /-- in µs -/
  coverInterval : Nat
  coverLen : Nat
  coverAssoc : Option AssocId
  coverCode : Nat
  deriving DecidableEq, Repr

/-- The reset values of R143. -/
def BufferParams.default : BufferParams := { xoff := 512, xon := 768, quanta := 0xFFFF }

/-- The reset values of Table 9-1. -/
def LinkParams.default : LinkParams :=
  { envType := 0xB7A1, rackMax := 9216, campusMax := 9600, defVerdict := .discard, defAssoc := none, holdTimeout := 500,
    graceInterval := 10, egressBuf := BufferParams.default, ingressBuf := BufferParams.default, coverInterval := 100, coverLen := 128,
    coverAssoc := none, coverCode := 0xB7A2 }

/-- The cover generator of a link (R156): the next expiry while the timer runs, the stall flag, the cover-skipped count. -/
structure CoverGen where
  nextAt : Option Nat
  stalled : Bool
  skipped : Nat
  deriving DecidableEq, Repr

/-- A PAUSE frame asked of a port: with the buffer's quanta, or with 0 (R144). -/
inductive PauseKind where
  | stop
  | resume
  deriving DecidableEq, Repr

/-- A port (R138, R145, R146): its signal, its state, its transmit pause, whether the head of its queue is in transmission, the PAUSE
frames asked of it, and the frame it last began to send. -/
structure Port where
  signal : Bool
  up : Bool
  pausedUntil : Option Nat
  sending : Bool
  pauseAsked : List PauseKind
  lineOut : Bytes
  deriving DecidableEq, Repr

/-- A port after a hard reset, with its signal as the pin has it (R138). -/
def Port.down (signal : Bool) : Port :=
  { signal := signal, up := false, pausedUntil := none, sending := false, pauseAsked := [], lineOut := [] }

/-- The counters of one link and direction (R147). Place i of `discards` is the i-th reason of Table 8-2. -/
structure Counters where
  framesIn : Nat
  framesOut : Nat
  octetsOut : Nat
  discards : Vector Nat 27
  clampedPadding : Nat
  coverSent : Nat
  coverReceived : Nat
  coverFormed : Nat
  arrivalNoBuffer : Nat
  deriving DecidableEq, Repr

/-- Every counter 0 (R147). -/
def Counters.zero : Counters :=
  { framesIn := 0, framesOut := 0, octetsOut := 0, discards := Vector.replicate 27 0, clampedPadding := 0, coverSent := 0,
    coverReceived := 0, coverFormed := 0, arrivalNoBuffer := 0 }

/-- One direction of a link: its frame buffer (R142, R144), the frames stored and not yet classified (R140), its order queue (R107)
and its counters (R147). -/
structure Path where
  free : Nat
  pausing : Bool
  resendAt : Option Nat
  stored : List Bytes
  queue : List Entry
  counters : Counters
  deriving DecidableEq, Repr

/-- A path after a hard reset (R107, R142, R144, R147). -/
def Path.blank : Path :=
  { free := Config.bufferCells, pausing := false, resendAt := none, stored := [], queue := [], counters := Counters.zero }

/-- A link: mode, parameters, cover generator, two ports and two directions. -/
structure Link where
  mode : Mode
  params : LinkParams
  cover : CoverGen
  rack : Port
  campus : Port
  egress : Path
  ingress : Path
  deriving DecidableEq, Repr

/-- A link after a hard reset, with the signals its pins have (R138, R150, R153, R156). -/
def Link.blank (rackSignal campusSignal : Bool) : Link :=
  { mode := .halt, params := LinkParams.default, cover := { nextAt := none, stalled := false, skipped := 0 },
    rack := Port.down rackSignal, campus := Port.down campusSignal, egress := Path.blank, ingress := Path.blank }

/-! ### Cipher lanes (chapter 6) -/

/-- What a lane fetches at its grant (R120). -/
structure Fetched where
  material : Bytes
  hashKey : Bytes
  salt : Bytes
  phase : Phase
  channel : Nat
  envType : Nat
  deriving DecidableEq, Repr

/-- The states of a lane (R118). A BUSY lane knows the queue its entry stands in. -/
inductive Lane where
  | idle
  | busy (d : Dir) (n : LinkId) (f : Fetched)
  | failed
  deriving DecidableEq, Repr

/-! ### The control unit (chapter 10) -/

/-- The receiver (R161), with the bytes it has collected. -/
inductive Receiver where
  | hunt
  | length (got : Bytes)
  | content (size : Nat) (got : Bytes)
  | check (size : Nat) (content : Bytes) (got : Bytes)
  deriving DecidableEq, Repr

/-- A request (Table 10-1). -/
structure Request where
  tag : Byte
  code : Byte
  repeatCount : Byte
  cond : Byte
  carg : Byte
  body : Bytes
  deriving DecidableEq, Repr

/-- A composed reply (R163, R165). `executed` tells the reply of an executed request from a QUEUE-FULL reply. -/
structure Reply where
  executed : Bool
  tag : Byte
  code : Byte
  status : Status
  flags : Flags
  doneCount : Nat
  body : Bytes
  deriving DecidableEq, Repr

/-- What the request at the head of the queue is doing (R164, R167). -/
inductive Execution where
  /-- not begun -/
  | idle
  /-- an INSTALL-KEY that was taken (R47) -/
  | installing
  /-- a PURGE-SUSPEND or PURGE-CANCEL that waits for a record boundary (R57, R59) -/
  | awaitingBoundary
  /-- a provisioning request whose field is being programmed (R177, R178) -/
  | programming
  /-- a repeat between two items: the next item, the items left, the items done, the flags and data so far (R167) -/
  | items (next left done : Nat) (flags : Flags) (data : Bytes)
  deriving DecidableEq, Repr

/-- The device state (R175, R183). -/
inductive DeviceState where
  | starting
  | running
  | failed
  | inReset
  deriving DecidableEq, Repr

/-- Which test a crossing met (R70). -/
inductive SoftTest where
  | pn
  | blocks
  | both
  deriving DecidableEq, Repr

/-- The cause of a rollover (R72). -/
inductive RollCause where
  | soft
  | limit
  | request
  | peer
  deriving DecidableEq, Repr

/-- The cause of an EXHAUSTED notice (R76). -/
inductive ExhaustCause where
  | spent
  | cap
  deriving DecidableEq, Repr

/-- The source of a zeroization (R181). -/
inductive ZeroizeSource where
  | request
  | input
  deriving DecidableEq, Repr

/-- The cause of a cover stall (R159). -/
inductive StallCause where
  | noneSet
  | noKey
  | retired
  | purged
  | tooLarge
  | exhausted
  deriving DecidableEq, Repr

/-- The notices of Table 10-5 with the fields their rules list. -/
inductive Notice where
  /-- STARTED-UP (R175) -/
  | startedUp (state : DeviceState) (health : BitVec 8) (unwrapPass : Bool)
  /-- ZEROIZED (R181) -/
  | zeroized (source : ZeroizeSource) (count : Nat) (install : Option AssocId) (purge : Option Purge)
  /-- PORT-UP (R138) -/
  | portUp (n : LinkId) (side : Side)
  /-- PORT-DOWN (R138) -/
  | portDown (n : LinkId) (side : Side)
  /-- SOFT-LIMIT (R70) -/
  | softLimit (a : AssocId) (n : LinkId) (generation : Nat) (phase : Phase) (check : Bytes) (pn u : Nat) (test : SoftTest)
  /-- ROLLED-OVER (R72, R135) -/
  | rolledOver (a : AssocId) (d : Dir) (n : LinkId) (generation : Nat) (phase : Phase) (check : Bytes) (oldPhase : Phase)
      (released : Nat) (cause : RollCause)
  /-- EXHAUSTED (R76) -/
  | exhausted (a : AssocId) (n : LinkId) (generation : Nat) (phase : Phase) (check : Bytes) (cause : ExhaustCause) (u b : Nat)
  /-- RETIRED (R87) -/
  | retired (a : AssocId) (d : Dir) (n : LinkId) (generation frames tagFails : Nat)
  /-- HOLD-EXPIRED (R81, R127) -/
  | holdExpired (n : LinkId) (a : AssocId) (generation count : Nat)
  /-- TAG-FAIL (R131) -/
  | tagFail (a : AssocId) (n : LinkId) (generation : Nat) (phase : Phase) (check : Bytes) (pn count : Nat)
  /-- PURGE-DONE (R62) -/
  | purgeDone (cancelled : Bool) (purge : Purge)
  /-- COVER-STALLED (R159) -/
  | coverStalled (n : LinkId) (assoc : Option (AssocId × Nat × RecState)) (cause : StallCause)
  deriving DecidableEq, Repr

/-- The control unit (R161, R163, R164, R169, R170). `sending` is the frame in transmission on the transmit line. -/
structure Control where
  receiver : Receiver
  requests : List Request
  exec : Execution
  replies : List Reply
  notices : List Notice
  noticesLost : Bool
  repliesLost : Bool
  sending : Option Bytes
  deriving DecidableEq, Repr

/-- The control unit after a hard reset (R171). -/
def Control.blank : Control :=
  { receiver := .hunt, requests := [], exec := .idle, replies := [], notices := [], noticesLost := false, repliesLost := false,
    sending := none }

/-! ### Device and provisioning (chapter 11) -/

/-- The device state, the sampled straps (R174), the zeroize count (R181) and a RESET that waits for programming to end (R176). -/
structure Device where
  state : DeviceState
  ctrlRate : Bool
  wrapOnly : Bool
  zeroizeCount : Nat
  resetWaits : Bool
  deriving DecidableEq, Repr

/-- The field being programmed (R176). -/
inductive Programming where
  | kwk (key : Bytes)
  | label (text : Bytes)
  | lock
  deriving DecidableEq, Repr

/-- The provisioning area (Table 11-1): the factory half, the KWK with its check value, the label, the lock, and the programming
operation in progress. A written field is `some`: its marker (R176). -/
structure Provisioning where
  serial : Bytes
  revision : Byte
  digest : Bytes
  kwk : Option (Bytes × Bytes)
  label : Option Bytes
  locked : Bool
  programming : Option Programming
  deriving DecidableEq, Repr

/-- The state of the part. `pending` is the queue of commands (the model's own, read by `step` only), `now` the model's clock in bit
times (log 1). -/
structure State where
  pending : List Instr
  now : Nat
  device : Device
  records : Vector Record 2048
  bank : BankUnit
  rules : Vector RangeRule 32
  flow : FlowTable
  links : Vector Link 4
  lanes : Vector Lane 8
  /-- the last-granted requester: 0 to 3 egress 0 to 3, 4 to 7 ingress 0 to 3 (R119) -/
  lastGrant : Fin 8
  control : Control
  prov : Provisioning
  deriving DecidableEq, Repr

/-- Why a step of this part stops with a fault: never. No rule of the spec stops the part, so the type is empty; it raises nothing and
is safe. -/
inductive Fault : Type
  deriving DecidableEq, Repr

/-- Why a command is refused. -/
inductive Refusal where
  /-- Raised by an arm of `exec` whose command has no meaning yet; safe. No arm raises it. -/
  | notModelled (mnemonic : String)
  deriving DecidableEq, Repr

/-- The provisioning area of a part that has left the factory and holds nothing of its customer (R176; the factory half's values are a
DESIGN CHOICE, log 4). -/
def Provisioning.fresh : Provisioning :=
  { serial := List.replicate 16 0, revision := 0, digest := List.replicate 32 0, kwk := none, label := none, locked := false,
    programming := none }

/-- The part just after power-on, when start-up has begun (R175, R183): STARTING, every volatile item at its hard-reset value, the
zeroize count 0, every lane out of service until the self-test ends (R118, R172, log 19). Straps, signals and the provisioning area
are DESIGN CHOICES (log 4). -/
def State.reset : State :=
  { pending := []
    now := 0
    device := { state := .starting, ctrlRate := false, wrapOnly := false, zeroizeCount := 0, resetWaits := false }
    records := Vector.replicate 2048 (Record.blank 0)
    bank := BankUnit.idle
    rules := Vector.replicate 32 RangeRule.blank
    flow := FlowTable.blank
    links := Vector.replicate 4 (Link.blank false false)
    lanes := Vector.replicate 8 Lane.failed
    lastGrant := 7
    control := Control.blank
    prov := Provisioning.fresh }

end Sys2Proof.Machine
end

