-- ==== Sys2Proof/Machine/Envelope.lean ====
section
/-! DEFINITION. The link envelope (chapter 1): what the part reads from a frame, the length arithmetic, the bytes of an envelope, and
the way back. -/

namespace Sys2Proof.Machine

/-- R1: a frame is tagged when its bytes 12 and 13 hold 0x8100. -/
def isTagged (f : Bytes) : Bool := numAt f 12 2 == 0x8100

/-- R1: where the EtherType of a frame stands. -/
def typeOffset (f : Bytes) : Nat := if isTagged f then 16 else 12

/-- R1: the EtherType of a frame. -/
def etherType (f : Bytes) : Nat := numAt f (typeOffset f) 2

/-- R1: the VID code of a frame, 4096 when it is untagged. -/
def vidCode (f : Bytes) : Nat := if isTagged f then numAt f 14 2 % 4096 else 4096

/-- The destination address of a frame. -/
def destAddr (f : Bytes) : Bytes := slice f 0 6

/-- `4x`: the bytes of an exposed VLAN tag. -/
def tagBytes (x : Bool) : Nat := if x then 4 else 0

/-- R9, R10: the values of an envelope whose plaintext is `ct` bytes with its padding: E = P′ + 42 + 4x, and B counts the AAD blocks,
the ciphertext blocks, the length block and the tag mask. -/
def envValues (x : Bool) (plain z : Nat) (padded : Bool) (ct : Nat) : EnvValues :=
  { x := x, plain := plain, z := z, padded := padded, ctLen := ct, envLen := ct + 42 + tagBytes x,
    charge := ceilDiv (22 + tagBytes x) 16 + ceilDiv ct 16 + 2 }

/-- R8, R9: the envelope of a frame of `len` bytes, with pad quantum `q` and campus maximum `m`: its values and whether its padding was
reduced, or nothing when it is too large. -/
def envelopeOf (len : Nat) (x : Bool) (q m : Nat) : Option (EnvValues × Bool) :=
  let p := len - 16 - tagBytes x
  if q = 0 then
    if p + 42 + tagBytes x ≤ m then some (envValues x p 0 false p, false) else none
  else
    let t := ceilDiv (p + 2) q * q
    if t + 42 + tagBytes x ≤ m then some (envValues x p (t - p - 2) true t, false)
    else if p + 44 + tagBytes x ≤ m then
      let z := m - 44 - tagBytes x - p
      some (envValues x p z true (p + 2 + z), true)
    else none

/-- R5: the pad and its trailer. -/
def padBytes (v : EnvValues) : Bytes := if v.padded then zeros v.z ++ u16 v.z else []

/-- R5: the plaintext of a rack frame: everything after the addresses and an exposed tag up to the FCS, and the padding. -/
def plaintextOf (v : EnvValues) (f : Bytes) : Bytes :=
  slice f (12 + tagBytes v.x) (f.length - 16 - tagBytes v.x) ++ padBytes v

/-- R15: the plaintext of a cover frame. -/
def coverPlaintext (v : EnvValues) (code : Nat) : Bytes := u16 code ++ zeros (v.plain - 2) ++ padBytes v

/-- R2: the flags byte: version 1, key phase, PADDED. -/
def flagsByte (phase : Phase) (padded : Bool) : Byte := BitVec.ofNat 8 (16 + 4 * phase.val + if padded then 2 else 0)

/-- R2, R5: the header of an envelope, which is its AAD. `outer` is DA, SA and the exposed tag. -/
def envelopeHeader (outer : Bytes) (envType : Nat) (phase : Phase) (padded : Bool) (channel pn : Nat) : Bytes :=
  outer ++ u16 envType ++ [flagsByte phase padded, 0] ++ u16 channel ++ u32 pn

/-- R2, R15: the bytes before the envelope type: addresses and exposed tag of the rack frame, zero addresses for a cover frame. -/
def outerBytes (e : Entry) : Bytes :=
  match e.kind with
  | .cover => zeros 12
  | .frame => slice e.data 0 (12 + tagBytes e.env.x)

/-- The plaintext of an egress entry (R5, R15). -/
def entryPlaintext (e : Entry) : Bytes :=
  match e.kind with
  | .cover => coverPlaintext e.env e.coverCode
  | .frame => plaintextOf e.env e.data

/-- R2, R4, R6: the envelope of an egress entry without its FCS, from the entry and what its lane fetched. -/
def buildEnvelope (e : Entry) (f : Fetched) : Bytes :=
  let pn := e.pn.getD 0
  let aad := envelopeHeader (outerBytes e) f.envType f.phase e.env.padded f.channel pn
  let nonce := f.salt ++ u32 pn
  let ct := gcmCrypt f.material nonce (entryPlaintext e)
  aad ++ ct ++ gcmTag f.material f.hashKey nonce aad ct

/-- The AAD of a received envelope (R5). -/
def receivedAad (e : Entry) : Bytes := slice e.data 0 (22 + tagBytes e.env.x)

/-- R6: the header and plaintext of a received envelope, when its tag verifies. -/
def openEnvelope (e : Entry) (f : Fetched) : Option Bytes :=
  let aad := receivedAad e
  let ct := slice e.data (22 + tagBytes e.env.x) e.env.ctLen
  let nonce := f.salt ++ u32 (e.pn.getD 0)
  if gcmTag f.material f.hashKey nonce aad ct = slice e.data (22 + tagBytes e.env.x + e.env.ctLen) 16 then
    some (aad ++ gcmCrypt f.material nonce ct)
  else none

/-- R13: the bytes kept of a verified plaintext, when its padding is well formed. -/
def unpad (padded : Bool) (p : Bytes) : Option Bytes :=
  if padded then
    let z := numAt p (p.length - 2) 2
    if z + 4 ≤ p.length ∧ slice p (p.length - 2 - z) z = zeros z then some (p.take (p.length - z - 2)) else none
  else some p

/-- R13, R14: the restored frame without its FCS and its first two kept plaintext bytes, from the header and plaintext that a lane left;
nothing when the frame is dropped with BAD-PAD. -/
def restoreFrame (x padded : Bool) (data : Bytes) : Option (Bytes × Nat) :=
  match unpad padded (data.drop (22 + tagBytes x)) with
  | none => none
  | some kept =>
    if kept.length + 16 + tagBytes x < 64 then none
    else some (slice data 0 (12 + tagBytes x) ++ kept, numAt kept 0 2)

end Sys2Proof.Machine
end

