-- ==== Sys2Proof/Machine/Ops.lean ====
section
/-! DEFINITION. The named reads and writes of State, and the small shared changes: counting a drop, allocating and freeing cells with
the pause test, queueing a notice. -/

namespace Sys2Proof.Machine

/-! ### One write for each field of State -/

def State.withPending (s : State) (v : List Instr) : State := { s with pending := v }
def State.withNow (s : State) (v : Nat) : State := { s with now := v }
def State.withDevice (s : State) (v : Device) : State := { s with device := v }
def State.withRecords (s : State) (v : Vector Record 2048) : State := { s with records := v }
def State.withBank (s : State) (v : BankUnit) : State := { s with bank := v }
def State.withRules (s : State) (v : Vector RangeRule 32) : State := { s with rules := v }
def State.withFlow (s : State) (v : FlowTable) : State := { s with flow := v }
def State.withLinks (s : State) (v : Vector Link 4) : State := { s with links := v }
def State.withLanes (s : State) (v : Vector Lane 8) : State := { s with lanes := v }
def State.withLastGrant (s : State) (v : Fin 8) : State := { s with lastGrant := v }
def State.withControl (s : State) (v : Control) : State := { s with control := v }
def State.withProv (s : State) (v : Provisioning) : State := { s with prov := v }

/-! ### Records, links, ports and paths by name -/

/-- The record of an association index (R16). -/
def State.record (s : State) (a : AssocId) : Record := s.records[a]

/-- Writes one record as a whole (R17). -/
def State.setRecord (s : State) (a : AssocId) (r : Record) : State := s.withRecords (s.records.set a r)

/-- Link `n`. -/
def State.link (s : State) (n : LinkId) : Link := s.links[n]

/-- Writes link `n`. -/
def State.setLink (s : State) (n : LinkId) (l : Link) : State := s.withLinks (s.links.set n l)

/-- Lane `l`. -/
def State.lane (s : State) (l : LaneId) : Lane := s.lanes[l]

/-- Writes lane `l`. -/
def State.setLane (s : State) (l : LaneId) (v : Lane) : State := s.withLanes (s.lanes.set l v)

/-- One direction of a link. -/
def Link.path (l : Link) : Dir → Path
  | .egress => l.egress
  | .ingress => l.ingress

/-- Writes one direction of a link. -/
def Link.setPath (l : Link) : Dir → Path → Link
  | .egress, p => { l with egress := p }
  | .ingress, p => { l with ingress := p }

/-- One port of a link. -/
def Link.port (l : Link) : Side → Port
  | .rack => l.rack
  | .campus => l.campus

/-- Writes one port of a link. -/
def Link.setPort (l : Link) : Side → Port → Link
  | .rack, p => { l with rack := p }
  | .campus, p => { l with campus := p }

/-- The buffer parameters of one direction (R143). -/
def LinkParams.buf (p : LinkParams) : Dir → BufferParams
  | .egress => p.egressBuf
  | .ingress => p.ingressBuf

/-- The direction `d` of link `n`. -/
def State.path (s : State) (d : Dir) (n : LinkId) : Path := (s.link n).path d

/-- Writes the direction `d` of link `n`. -/
def State.setPath (s : State) (d : Dir) (n : LinkId) (p : Path) : State := s.setLink n ((s.link n).setPath d p)

/-- The port on `side` of link `n`. -/
def State.port (s : State) (side : Side) (n : LinkId) : Port := (s.link n).port side

/-- Writes the port on `side` of link `n`. -/
def State.setPort (s : State) (side : Side) (n : LinkId) (p : Port) : State := s.setLink n ((s.link n).setPort side p)

/-- The parameters of link `n` (Table 9-1). -/
def State.params (s : State) (n : LinkId) : LinkParams := (s.link n).params

/-- Writes the order queue of one direction. -/
def State.setQueue (s : State) (d : Dir) (n : LinkId) (q : List Entry) : State := s.setPath d n { s.path d n with queue := q }

/-- The port a direction feeds from: an egress buffer is fed by the rack port, an ingress buffer by the campus port (R143). -/
def feedSide : Dir → Side
  | .egress => .rack
  | .ingress => .campus

/-- The port a direction leaves by: egress by the campus port, ingress by the rack port (R114, R115). -/
def sendSide : Dir → Side
  | .egress => .campus
  | .ingress => .rack

/-- The direction that a port feeds (R140). -/
def fedDir : Side → Dir
  | .rack => .egress
  | .campus => .ingress

/-- The direction that leaves by a port. -/
def sentDir : Side → Dir
  | .rack => .ingress
  | .campus => .egress

/-! ### Counts that stop at their greatest value -/

/-- A 48-bit count raised by `k` (R22, R147). -/
def sat48 (v k : Nat) : Nat := min Config.max48 (v + k)

/-- A 32-bit count raised by `k` (R96, R156). -/
def sat32 (v k : Nat) : Nat := min Config.max32 (v + k)

/-- The place of a reason in Table 8-2. -/
def Reason.place : Reason → Fin 27
  | .badFcs => 0
  | .runt => 1
  | .oversize => 2
  | .noBuffer => 3
  | .orderFull => 4
  | .halted => 5
  | .coverMode => 6
  | .ruleDiscard => 7
  | .flowDiscard => 8
  | .bypassBarred => 9
  | .clearBarred => 10
  | .noKey => 11
  | .exhausted => 12
  | .purged => 13
  | .retired => 14
  | .holdFull => 15
  | .holdExpired => 16
  | .tooLarge => 17
  | .badHeader => 18
  | .unknownPhase => 19
  | .badPn => 20
  | .late => 21
  | .duplicate => 22
  | .tagFail => 23
  | .badPad => 24
  | .portDown => 25
  | .zeroized => 26

/-- The discard counter of a reason (R147). -/
def Counters.discard (c : Counters) (why : Reason) : Nat := c.discards[why.place]

/-- The discard counter of a reason raised by `k` (R147). -/
def Counters.addDiscard (c : Counters) (why : Reason) (k : Nat) : Counters :=
  { c with discards := c.discards.set why.place (sat48 (c.discard why) k) }

/-- Raises the discard counter of a reason on one link and direction. -/
def State.countDrop (s : State) (d : Dir) (n : LinkId) (why : Reason) (k : Nat) : State :=
  s.setPath d n { s.path d n with counters := (s.path d n).counters.addDiscard why k }

/-! ### Notices -/

/-- R170: a notice joins the notice queue, or is discarded with the notices-lost flag when the queue holds 32. -/
def Control.notify (c : Control) (v : Notice) : Control :=
  if c.notices.length < Config.noticePlaces then { c with notices := c.notices ++ [v] } else { c with noticesLost := true }

/-- R170: a notice is queued. -/
def State.notify (s : State) (v : Notice) : State := s.withControl (s.control.notify v)

/-- Several notices, in order. -/
def State.notifyAll (s : State) (vs : List Notice) : State := vs.foldl State.notify s

/-! ### Cells and the pause test -/

/-- The resend interval of a buffer: half of its quanta time (R145). -/
def resendInterval (b : BufferParams) : Nat := b.quanta * Config.quantumTicks / 2

/-- R145: a port that is UP is asked for a PAUSE frame; a port that is DOWN sends none. -/
def State.askPause (s : State) (side : Side) (n : LinkId) (k : PauseKind) : State :=
  let p := s.port side n
  if p.up then s.setPort side n { p with pauseAsked := p.pauseAsked ++ [k] } else s

/-- R144: the test a buffer makes whenever its free-cell count or its thresholds change. -/
def State.pauseTest (s : State) (d : Dir) (n : LinkId) : State :=
  let p := s.path d n
  let b := (s.params n).buf d
  if p.pausing = false ∧ p.free < b.xoff then
    (s.setPath d n { p with pausing := true, resendAt := some (s.now + resendInterval b) }).askPause (feedSide d) n .stop
  else if p.pausing = true ∧ b.xon ≤ p.free then
    (s.setPath d n { p with pausing := false, resendAt := none }).askPause (feedSide d) n .resume
  else s

/-- R142: `k` cells of a buffer are freed. -/
def State.freeCells (s : State) (d : Dir) (n : LinkId) (k : Nat) : State :=
  if k = 0 then s else (s.setPath d n { s.path d n with free := (s.path d n).free + k }).pauseTest d n

/-- R142: `k` cells of a buffer are allocated; the caller has seen that they are free. -/
def State.takeCells (s : State) (d : Dir) (n : LinkId) (k : Nat) : State :=
  if k = 0 then s else (s.setPath d n { s.path d n with free := (s.path d n).free - k }).pauseTest d n

/-- A frame without an entry is dropped: its reason is counted and its `cells` are freed (R88, R113). -/
def State.dropFrame (s : State) (d : Dir) (n : LinkId) (why : Reason) (cells : Nat) : State :=
  (s.countDrop d n why 1).freeCells d n cells

/-! ### Order-queue entries -/

/-- Whether an entry is HELD. -/
def Entry.isHeld (e : Entry) : Bool :=
  match e.state with
  | .held _ _ => true
  | _ => false

/-- Whether an entry is DROPPED. -/
def Entry.isDropped (e : Entry) : Bool :=
  match e.state with
  | .dropped _ => true
  | _ => false

/-- Whether an entry is a HELD entry of record `a`. -/
def Entry.isHeldOf (a : AssocId) (e : Entry) : Bool := e.isHeld && e.assoc == some a

/-- Whether an entry is VERIFIED under the key of record `a` with phase `p`. -/
def Entry.isVerifiedOf (a : AssocId) (p : Phase) (e : Entry) : Bool :=
  e.state == .verified && e.assoc == some a && e.key == some p

/-- R113: an entry becomes DROPPED; its cells are no longer its own. -/
def Entry.drop (e : Entry) (why : Reason) : Entry := { e with state := .dropped why, cells := 0 }

/-- The HELD entries of a queue (R108). -/
def heldCount (q : List Entry) : Nat := (q.filter Entry.isHeld).length

/-- The cells that the chosen entries of a queue hold. -/
def cellsOf (q : List Entry) (chosen : Entry → Bool) : Nat := ((q.filter chosen).map Entry.cells).sum

/-- R113: every entry of one queue that `chosen` picks, and that is not DROPPED already, is dropped in place: it keeps its place, its
cells are freed and its reason is counted. -/
def State.dropEntries (s : State) (d : Dir) (n : LinkId) (chosen : Entry → Bool) (why : Reason) : State :=
  let q := (s.path d n).queue
  let pick (e : Entry) : Bool := chosen e && !e.isDropped
  let s1 := s.setQueue d n (q.map fun e => if pick e then e.drop why else e)
  (s1.countDrop d n why (q.filter pick).length).freeCells d n (cellsOf q pick)

/-- The head of a queue leaves with nothing counted (R113). -/
def State.popHead (s : State) (d : Dir) (n : LinkId) : State := s.setQueue d n (s.path d n).queue.tail

/-- The head of a queue is dropped and leaves at once (R113, R117). -/
def State.dropHead (s : State) (d : Dir) (n : LinkId) (why : Reason) : State :=
  match (s.path d n).queue with
  | [] => s
  | e :: rest => ((s.setQueue d n rest).countDrop d n why 1).freeCells d n e.cells

/-- A new entry joins a queue at its tail (R108). -/
def State.append (s : State) (d : Dir) (n : LinkId) (e : Entry) : State := s.setQueue d n ((s.path d n).queue ++ [e])

end Sys2Proof.Machine
end

