-- ==== Sys2Proof/Machine/Codes.lean ====
section
/-! DEFINITION. The codes of enumerated values in requests, replies and notices: those that a rule or Table 10-2 gives, and otherwise
the position in the owning rule's list counting from 0 (R166). -/

namespace Sys2Proof.Machine

/-- Table 10-2. -/
def Status.code : Status → Byte
  | .ok => 0x00
  | .started => 0x01
  | .condFalse => 0x02
  | .unknownRequest => 0x10
  | .badLength => 0x11
  | .badField => 0x12
  | .badIndex => 0x13
  | .badState => 0x14
  | .notConditional => 0x15
  | .storeBusy => 0x20
  | .inPurge => 0x21
  | .phaseInUse => 0x22
  | .retiringBusy => 0x23
  | .unwrapFailed => 0x24
  | .clearRefused => 0x30
  | .notProvisioned => 0x31
  | .locked => 0x32
  | .alreadyWritten => 0x33
  | .duplicate => 0x40
  | .tableFull => 0x41
  | .chainTooLong => 0x42
  | .notFound => 0x43
  | .queueFull => 0x50
  | .notRunning => 0x51

/-- R160: bit 0 CLAMPED, bit 1 HELD, bit 2 REPEAT-IGNORED. -/
def Flags.code (f : Flags) : Byte :=
  (if f.clamped then 1 else 0) ||| (if f.held then 2 else 0) ||| (if f.repeatIgnored then 4 else 0)

/-- Table 2-1. -/
def RecState.code : RecState → Byte
  | .empty => 0
  | .opened => 1
  | .live => 2
  | .exhausted => 3
  | .draining => 4
  | .purging => 5
  | .barred => 6

/-- Table 2-4, ABSENT first. -/
def KeyState.code : KeyState → Byte
  | .loading => 1
  | .ready => 2
  | .inUse => 3
  | .spent => 4
  | .retiring => 5
  | .grace => 6

/-- Table 2-1: EGRESS, INGRESS. -/
def dirCode : Dir → Byte
  | .egress => 0
  | .ingress => 1

/-- R138: RACK, CAMPUS. -/
def sideCode : Side → Byte
  | .rack => 0
  | .campus => 1

/-- R173: UP, DOWN. -/
def upCode (up : Bool) : Byte := if up then 0 else 1

/-- Table 2-1: HOLD, DISCARD. -/
def HoldPolicy.code : HoldPolicy → Byte
  | .hold => 0
  | .discard => 1

/-- R151. -/
def Mode.code : Mode → Byte
  | .halt => 0
  | .cover => 1
  | .protect => 2
  | .selective => 3

/-- R151. -/
def Mode.ofCode (b : Byte) : Option Mode :=
  match b.toNat with
  | 0 => some .halt
  | 1 => some .cover
  | 2 => some .protect
  | 3 => some .selective
  | _ => none

/-- R153. -/
def Verdict.code : Verdict → Byte
  | .encrypt => 0
  | .bypass => 1
  | .discard => 2

/-- R153. -/
def Verdict.ofCode (v : Nat) : Option Verdict :=
  match v with
  | 0 => some .encrypt
  | 1 => some .bypass
  | 2 => some .discard
  | _ => none

/-- R144: NORMAL, PAUSING. -/
def pausingCode (pausing : Bool) : Byte := if pausing then 1 else 0

/-- R173: STARTING, RUNNING, FAILED. A part held in RESET sends nothing. -/
def DeviceState.code : DeviceState → Byte
  | .starting => 0
  | .running => 1
  | .failed => 2
  | .inReset => 0

/-- R70: PN, BLOCKS, both. -/
def SoftTest.code : SoftTest → Byte
  | .pn => 0
  | .blocks => 1
  | .both => 2

/-- R72: SOFT, LIMIT, REQUEST, PEER. -/
def RollCause.code : RollCause → Byte
  | .soft => 0
  | .limit => 1
  | .request => 2
  | .peer => 3

/-- R76: SPENT, CAP. -/
def ExhaustCause.code : ExhaustCause → Byte
  | .spent => 0
  | .cap => 1

/-- R181: REQUEST, INPUT. -/
def ZeroizeSource.code : ZeroizeSource → Byte
  | .request => 0
  | .input => 1

/-- R159: NONE-SET, NO-KEY, RETIRED, PURGED, TOO-LARGE, EXHAUSTED. -/
def StallCause.code : StallCause → Byte
  | .noneSet => 0
  | .noKey => 1
  | .retired => 2
  | .purged => 3
  | .tooLarge => 4
  | .exhausted => 5

/-- R42: NONE, DONE, CANCELLED, ZEROIZED. -/
def PurgeResult.code : PurgeResult → Byte
  | .none => 0
  | .done => 1
  | .cancelled => 2
  | .zeroized => 3

/-- R52: the after-state, 0 EMPTY and 1 BARRED. -/
def afterCode (barred : Bool) : Byte := if barred then 1 else 0

/-- Table 10-5. -/
def Notice.code : Notice → Byte
  | .startedUp .. => 0x01
  | .zeroized .. => 0x02
  | .portUp .. => 0x10
  | .portDown .. => 0x11
  | .softLimit .. => 0x20
  | .rolledOver .. => 0x21
  | .exhausted .. => 0x22
  | .retired .. => 0x23
  | .holdExpired .. => 0x24
  | .tagFail .. => 0x25
  | .purgeDone .. => 0x30
  | .coverStalled .. => 0x40

/-- The range, cursor and counts of a purge, as R62 and R181 list them. -/
def purgeFields (p : Purge) : Bytes :=
  u8 p.bank.val ++ u16 p.first ++ u16 p.last ++ u16 p.cursor ++ u16 p.purged ++ u16 p.skipped

/-- The body of a notice: the fields that its owning rule lists, encoded as R166 states. -/
def Notice.body : Notice → Bytes
  | .startedUp st health pass => [st.code, health, if pass then 0 else 1]
  | .zeroized src count install purge =>
    [src.code] ++ u16 count
      ++ (match install with
          | some a => yesNo true ++ u16 a.val
          | none => yesNo false)
      ++ (match purge with
          | some p => yesNo true ++ purgeFields p
          | none => yesNo false)
  | .portUp n side => u8 n.val ++ [sideCode side]
  | .portDown n side => u8 n.val ++ [sideCode side]
  | .softLimit a n g ph check pn u test =>
    u16 a.val ++ u8 n.val ++ u8 g ++ u8 ph.val ++ check ++ u32 pn ++ u48 u ++ [test.code]
  | .rolledOver a d n g ph check oldPh released cause =>
    u16 a.val ++ [dirCode d] ++ u8 n.val ++ u8 g ++ u8 ph.val ++ check ++ u8 oldPh.val ++ u8 released ++ [cause.code]
  | .exhausted a n g ph check cause u b =>
    u16 a.val ++ u8 n.val ++ u8 g ++ u8 ph.val ++ check ++ [cause.code] ++ u48 u ++ u16 b
  | .retired a d n g frames tags => u16 a.val ++ [dirCode d] ++ u8 n.val ++ u8 g ++ u48 frames ++ u48 tags
  | .holdExpired n a g count => u8 n.val ++ u16 a.val ++ u8 g ++ u8 count
  | .tagFail a n g ph check pn count => u16 a.val ++ u8 n.val ++ u8 g ++ u8 ph.val ++ check ++ u32 pn ++ u48 count
  | .purgeDone cancelled p => [if cancelled then 1 else 0] ++ purgeFields p
  | .coverStalled n assoc cause =>
    u8 n.val
      ++ (match assoc with
          | some (a, g, st) => u16 a.val ++ u8 g ++ [st.code]
          | none => u16 0xFFFF)
      ++ [cause.code]

end Sys2Proof.Machine
end

