-- ==== Sys2Proof/Machine/Line.lean ====
section
/-! DEFINITION. The control line (chapter 10): frames, the receiver, the request queue, composed replies, and the transmitter. -/

namespace Sys2Proof.Machine

/-! ### Frames on the transmit line -/

/-- R160: a frame around its content: SYNC, LENGTH, the header and body, CRC-16 over all but SYNC. -/
def lineFrame (content : Bytes) : Bytes :=
  let covered := u16 content.length ++ content
  [0xC3] ++ covered ++ crc16 covered

/-- Table 10-1: a reply's header and body. -/
def Reply.content (r : Reply) : Bytes :=
  [0x52, r.tag, r.code, r.status.code, r.flags.code] ++ u8 r.doneCount ++ r.body

/-- Table 10-1: a notice's header and body. -/
def Notice.content (v : Notice) : Bytes := [0x53, 0, v.code] ++ v.body

/-- R169: whenever the transmitter is free it begins the oldest reply, otherwise the oldest notice. -/
def Control.pump (c : Control) : Control :=
  match c.sending with
  | some _ => c
  | none =>
    match c.replies with
    | r :: rest => { c with replies := rest, sending := some (lineFrame r.content) }
    | [] =>
      match c.notices with
      | v :: rest => { c with notices := rest, sending := some (lineFrame v.content) }
      | [] => c

/-- The transmitter's choice at the end of a change (R169). -/
def State.pump (s : State) : State := s.withControl s.control.pump

/-! ### Requests and replies -/

/-- The flags with nothing clamped, held or ignored. -/
def Flags.none : Flags := { clamped := false, held := false, repeatIgnored := false }

/-- R164: the reply of the request at the head is composed and placed in the reply list, and the request leaves the queue. -/
def Control.answer (c : Control) (status : Status) (flags : Flags) (doneCount : Nat) (body : Bytes) : Control :=
  match c.requests with
  | [] => c
  | q :: rest =>
    { c with
      requests := rest
      exec := .idle
      replies := c.replies ++ [{ executed := true, tag := q.tag, code := q.code, status := status, flags := flags,
                                 doneCount := doneCount, body := body }] }

/-- R164, with the control unit of a state. -/
def State.answer (s : State) (status : Status) (flags : Flags) (doneCount : Nat) (body : Bytes) : State :=
  s.withControl (s.control.answer status flags doneCount body)

/-- Whether the request at the head asks for a repeat (R165). -/
def Control.repeatAsked (c : Control) : Bool :=
  match c.requests with
  | [] => false
  | q :: _ => q.repeatCount != 0

/-- R165: the reply of a request that is not repeatable: DONE-COUNT 0, and REPEAT-IGNORED when it carried REPEAT above 0. -/
def State.answerOnce (s : State) (status : Status) (flags : Flags) (body : Bytes) : State :=
  s.answer status { flags with repeatIgnored := s.control.repeatAsked } 0 body

/-- R163: how many QUEUE-FULL replies wait. -/
def Control.refusals (c : Control) : Nat := (c.replies.filter fun r => !r.executed).length

/-- R163: an intact request joins the request queue, or is answered QUEUE-FULL, or is lost. -/
def Control.enqueue (c : Control) (q : Request) : Control :=
  if c.requests.length < Config.requestPlaces then { c with requests := c.requests ++ [q] }
  else if c.refusals < Config.refusalPlaces then
    { c with replies := c.replies ++ [{ executed := false, tag := q.tag, code := q.code, status := .queueFull, flags := Flags.none,
                                        doneCount := 0, body := [] }] }
  else { c with repliesLost := true }

/-! ### The receiver -/

/-- R161: the content of a complete frame whose CRC matches, as a request when its KIND is 0x51. -/
def requestOf (content : Bytes) : Option Request :=
  match content with
  | kind :: tag :: code :: rep :: cond :: carg :: body =>
    if kind = 0x51 then some { tag := tag, code := code, repeatCount := rep, cond := cond, carg := carg, body := body } else none
  | _ => none

/-- R161, R162, R169: a complete frame is queued when it is intact and discarded otherwise; the receiver hunts again; a reply that the
request brought forth at once begins on a transmit line that is free, whatever frames follow on the receive line. -/
def Control.complete (c : Control) (size : Nat) (content crc : Bytes) : Control :=
  let c1 := { c with receiver := .hunt }
  if crc16 (u16 size ++ content) = crc then
    match requestOf content with
    | some q => (c1.enqueue q).pump
    | none => c1
  else c1

/-- R161, R162: one byte with a valid stop bit reaches the receiver. -/
def Control.receive (c : Control) (b : Byte) : Control :=
  match c.receiver with
  | .hunt => if b = 0xC3 then { c with receiver := .length [] } else c
  | .length got =>
    let got' := got ++ [b]
    if got'.length < 2 then { c with receiver := .length got' }
    else if 6 ≤ beNat got' ∧ beNat got' ≤ 1030 then { c with receiver := .content (beNat got') [] }
    else { c with receiver := .hunt }
  | .content size got =>
    let got' := got ++ [b]
    if got'.length < size then { c with receiver := .content size got' } else { c with receiver := .check size got' [] }
  | .check size content got =>
    let got' := got ++ [b]
    if got'.length < 2 then { c with receiver := .check size content got' } else c.complete size content got'

/-- A stretch of bytes, each with a valid stop bit and within 2 ms of the one before. -/
def Control.receiveAll (c : Control) (bs : Bytes) : Control := bs.foldl Control.receive c

/-- R162: a frame that is being received is abandoned. -/
def Control.abandon (c : Control) : Control := { c with receiver := .hunt }

/-- R183: while RESET is held the receiver ignores the line. -/
def State.listening (s : State) : Bool := s.device.state != .inReset

/-- Bytes on the receive line, and the transmitter's choice after them. -/
def State.receiveAll (s : State) (bs : Bytes) : State :=
  if s.listening then (s.withControl (s.control.receiveAll bs)).pump else s

/-- Bytes on the receive line and then an event that abandons a frame (R162). -/
def State.receiveThenAbandon (s : State) (bs : Bytes) : State :=
  if s.listening then (s.withControl (s.control.receiveAll bs).abandon).pump else s

/-! ### The commands of the line -/

/-- HOST_FRAME_RECEIVED (R161, R163). -/
def execHostFrameReceived (bytes : Bytes) (s : State) : Host.Outcome State Fault Refusal := .next (s.receiveAll bytes)

/-- FRAME_LENGTH_OUT_OF_RANGE (R162): the second LENGTH byte is among the bytes, and the receiver's own test abandons the frame. -/
def execFrameLengthOutOfRange (bytes : Bytes) (s : State) : Host.Outcome State Fault Refusal := .next (s.receiveAll bytes)

/-- INTER_BYTE_TIMEOUT (R162): in HUNT there is no frame to abandon. -/
def execInterByteTimeout (bytes : Bytes) (s : State) : Host.Outcome State Fault Refusal := .next (s.receiveThenAbandon bytes)

/-- FRAMING_ERROR (R162): the faulty byte is not examined as SYNC; in HUNT it is ignored. -/
def execFramingError (bytes : Bytes) (s : State) : Host.Outcome State Fault Refusal := .next (s.receiveThenAbandon bytes)

/-- CONTROL_FRAME_SENT (R169): the frame in transmission ends and the transmitter begins the next. -/
def execControlFrameSent (s : State) : Host.Outcome State Fault Refusal :=
  .next (s.withControl { s.control with sending := none }).pump

end Sys2Proof.Machine
end

