-- ==== Sys2Proof/Machine/Store.lean ====
section
/-! DEFINITION. The Association Store's shared changes (chapters 2, 3, 4 and 7): keys and windows, charging, rollovers, the destruction
of keys, the emptying of records, and what the Store does when an in-flight count reaches 0. -/

namespace Sys2Proof.Machine

/-! ### Acceptance windows (R128, R130) -/

/-- An empty window of size `w` (R50). -/
def Window.empty (w : Nat) : Window := { size := w, high := 0, marked := [] }

/-- R128: the window test of a packet number: the reason it fails, or nothing when it is acceptable. -/
def Window.test (w : Window) (p : Nat) : Option Reason :=
  if p = 0 then some .badPn
  else if w.size < w.high ∧ p ≤ w.high - w.size then some .late
  else if p ∈ w.marked then some .duplicate
  else none

/-- R130: the window after an acceptable packet number has passed its final check. With W = 0 nothing stays marked (R128). -/
def Window.accept (w : Window) (p : Nat) : Window :=
  if w.high < p then
    { w with high := p, marked := if w.size = 0 then [] else p :: w.marked.filter fun m => p < m + w.size }
  else { w with marked := p :: w.marked }

/-! ### Keys of a record -/

/-- The key of a record with phase `p`; at most one slot has it (R26). -/
def Record.keyOf (r : Record) (p : Phase) : Option Key := ([r.cur, r.nxt, r.old].filterMap id).find? fun k => k.phase == p

/-- Changes the key with phase `p`, in whichever slot it is. -/
def Record.mapKey (r : Record) (p : Phase) (f : Key → Key) : Record :=
  let g (k : Key) : Key := if k.phase = p then f k else k
  { r with cur := r.cur.map g, nxt := r.nxt.map g, old := r.old.map g }

/-- The in-flight count of a slot, 0 when it is ABSENT. -/
def slotInFlight (k : Option Key) : Nat :=
  match k with
  | some k => k.inFlight
  | none => 0

/-- Whether every in-flight count of a record is 0 (R55, R87). -/
def Record.drained (r : Record) : Bool := slotInFlight r.cur + slotInFlight r.nxt + slotInFlight r.old == 0

/-- R30: one entry more, or one less, refers to a key. -/
def Key.hold (k : Key) : Key := { k with inFlight := k.inFlight + 1 }

/-- R30: one entry less refers to a key. -/
def Key.letGo (k : Key) : Key := { k with inFlight := k.inFlight - 1 }

/-- Whether a slot holds a key in state `st`. -/
def slotIs (k : Option Key) (st : KeyState) : Bool :=
  match k with
  | some k => k.state == st
  | none => false

/-! ### Packet numbers, charges and the soft test (R66 to R70) -/

/-- The block cap K = 2^e (R19). -/
def AssocParams.cap (p : AssocParams) : Nat := 2 ^ p.capExp

/-- R66: whether the CUR key can take a frame of charge `b`. -/
def Record.usable (r : Record) (b : Nat) : Bool :=
  match r.cur with
  | some k => k.state == .inUse && decide (k.u + b ≤ r.params.cap)
  | none => false

/-- R67, R68: the key after it has given its next PN to a frame of charge `b`: n moves on, or the key is SPENT and its n is 0; U rises;
the entry is counted. -/
def Key.charge (k : Key) (b : Nat) : Key :=
  { k with
    n := if k.n = Config.pnMax then 0 else k.n + 1
    state := if k.n = Config.pnMax then .spent else k.state
    u := k.u + b
    inFlight := k.inFlight + 1 }

/-- R69: which test a key meets after a charge that gave out `pn`, when its crossed marker is clear. -/
def softTestMet (p : AssocParams) (k : Key) (pn : Nat) : Option SoftTest :=
  if k.crossed then none
  else
    match decide (p.softPn ≤ pn), decide (p.cap - p.cap / 8 ≤ k.u) with
    | true, true => some .both
    | true, false => some .pn
    | false, true => some .blocks
    | false, false => none

/-- R70: the SOFT-LIMIT notice of a record's CUR key `k`. -/
def softNotice (a : AssocId) (r : Record) (k : Key) (pn : Nat) (t : SoftTest) : Notice :=
  .softLimit a r.link r.generation k.phase k.check pn k.u t

/-- R80: the HELD entries of record `a` are given packet numbers of key `k` in queue order, each charged and soft-tested; NXT is ABSENT
then, so a crossing sets the soft flag. Answers the queue, the key, the notices and how many entries were released. -/
def releaseHeld (a : AssocId) (r : Record) : List Entry → Key → List Entry × Key × List Notice × Nat
  | [], k => ([], k, [], 0)
  | e :: rest, k =>
    if e.isHeldOf a then
      let pn := k.n
      let k1 := k.charge e.env.charge
      let met := softTestMet r.params k1 pn
      let k2 := if met.isSome then { k1 with crossed := true, soft := true } else k1
      let (rest', k3, notes, count) := releaseHeld a r rest k2
      ({ e with state := .waiting, pn := some pn, key := some k.phase } :: rest', k3,
        (met.map (softNotice a r k1 pn)).toList ++ notes, count + 1)
    else
      let (rest', k3, notes, count) := releaseHeld a r rest k
      (e :: rest', k3, notes, count)

/-! ### Rollovers (R71, R135) -/

/-- R71 step 2: the staged key as the new key in service. -/
def Key.enterService (k : Key) : Key := { k with state := .inUse, n := 1, u := 0, soft := false, crossed := false }

/-- R71 steps 1 to 5 on a record whose CUR is `c` and NXT is `k`: CUR retires, and is destroyed at once when nothing refers to it. -/
def Record.rollEgress (r : Record) (c k : Key) : Record :=
  { r with
    cur := some k.enterService
    nxt := none
    old := if c.inFlight = 0 then none else some { c with state := .retiring }
    generation := (r.generation + 1) % 256
    state := .live
    wanted := false }

/-- R71: the egress rollover, with the release of the record's HELD entries (R80) and its notice (R72). -/
def State.rollEgress (s : State) (a : AssocId) (cause : RollCause) : State :=
  let r := s.record a
  match r.cur, r.nxt with
  | some c, some k =>
    let r1 := r.rollEgress c k
    let (q, k1, notes, released) := releaseHeld a r1 (s.path .egress r.link).queue k.enterService
    (((s.setRecord a { r1 with cur := some k1 }).setQueue .egress r.link q).notifyAll notes).notify
      (.rolledOver a .egress r.link r1.generation k.phase k.check c.phase released cause)
  | _, _ => s

/-- R71: whether a rollover can be made: LIVE or EXHAUSTED (with a key in CUR, as every such record has), NXT READY, OLD ABSENT. -/
def Record.canRoll (r : Record) : Bool :=
  (r.state == .live || r.state == .exhausted) && r.cur.isSome && slotIs r.nxt .ready && r.old.isNone

/-- R135 on a record whose CUR is `c` and NXT is `k`: CUR enters GRACE until `deadline`. -/
def Record.rollIngress (r : Record) (c k : Key) (deadline : Nat) : Record :=
  { r with
    cur := some { k with state := .inUse }
    nxt := none
    old := some { c with state := .grace, graceAt := some deadline }
    generation := (r.generation + 1) % 256
    wanted := false }

/-- R135: the ingress rollover and its notice, with cause PEER and no entry released. -/
def State.rollIngress (s : State) (a : AssocId) : State :=
  let r := s.record a
  match r.cur, r.nxt with
  | some c, some k =>
    let r1 := r.rollIngress c k (s.now + (s.params r.link).graceInterval * Config.msTicks)
    (s.setRecord a r1).notify (.rolledOver a .ingress r.link r1.generation k.phase k.check c.phase 0 .peer)
  | _, _ => s

/-- R73, R136: a rollover that waits is made once NXT is READY and OLD is ABSENT. -/
def State.deferredRollover (s : State) (a : AssocId) : State :=
  let r := s.record a
  if r.wanted ∧ r.canRoll then
    match r.dir with
    | .egress => s.rollEgress a .limit
    | .ingress => s.rollIngress a
  else s

/-! ### Destruction of keys and emptying of records -/

/-- The VERIFIED entries of record `a` under its key of phase `p` are dropped in place (R133). -/
def State.dropVerified (s : State) (a : AssocId) (p : Phase) (why : Reason) : State :=
  s.dropEntries .ingress (s.record a).link (Entry.isVerifiedOf a p) why

/-- R84: whether the OLD key of a record is RETIRING with nothing in flight. -/
def Record.oldSpent (r : Record) : Bool := slotIs r.old .retiring && slotInFlight r.old == 0

/-- R84, R31: a RETIRING key whose count is 0 is destroyed; its VERIFIED entries are dropped with LATE (R133); a rollover that waited
for OLD is made in the same change (R73, R136). -/
def State.destroyRetired (s : State) (a : AssocId) : State :=
  let r := s.record a
  match r.old with
  | some k =>
    if r.oldSpent then ((s.dropVerified a k.phase .late).setRecord a { r with old := none }).deferredRollover a else s
  | none => s

/-- Whether an entry is VERIFIED under some key of record `a`. -/
def Entry.isVerifiedOfAny (a : AssocId) (e : Entry) : Bool := e.state == .verified && e.assoc == some a

/-- R24: an entry that names record `a` ceases to name it. -/
def Entry.unname (a : AssocId) (e : Entry) : Entry := if e.assoc = some a then { e with assoc := none } else e

/-- R24: every entry of one direction ceases to name record `a`. -/
def Path.unname (a : AssocId) (p : Path) : Path := { p with queue := p.queue.map (Entry.unname a) }

/-- R24: every order-queue entry ceases to name record `a`. -/
def State.unname (s : State) (a : AssocId) : State :=
  s.withLinks (s.links.map fun l => { l with egress := l.egress.unname a, ingress := l.ingress.unname a })

/-- R24, R31: a record is emptied, its keys destroyed and its generation kept; `after` is EMPTY, or BARRED for a purge with that
after-state. The VERIFIED entries of its keys are dropped with `why` (R133). -/
def State.emptyRecord (s : State) (a : AssocId) (after : RecState) (why : Reason) : State :=
  let r := s.record a
  let s1 := s.dropEntries .ingress r.link (Entry.isVerifiedOfAny a) why
  (s1.setRecord a { Record.blank r.generation with state := after }).unname a

/-- R87: a DRAINING record with nothing in flight is emptied, and one RETIRED notice carries its counts. -/
def State.drainEnd (s : State) (a : AssocId) : State :=
  let r := s.record a
  if r.state = .draining ∧ r.drained then
    (s.emptyRecord a .empty .retired).notify (.retired a r.dir r.link r.generation r.frames r.tagFails)
  else s

/-! ### Purges (R53 to R62) -/

/-- The association index of a slot of a bank (00_scope.md section 5.3). -/
def bankSlot (b : BankId) (slot : Nat) : AssocId := ⟨(b.val * 512 + slot % 512) % 2048, Nat.mod_lt _ (by decide)⟩

/-- The bank of an association index. -/
def bankOf (a : AssocId) : BankId := ⟨a.val / 512, by omega⟩

/-- R53: whether an index lies in the unprocessed range of a purge. -/
def Purge.covers (p : Purge) (a : AssocId) : Bool :=
  p.bank == bankOf a && decide (p.cursor ≤ a.val % 512) && decide (a.val % 512 ≤ p.last)

/-- R56, R59: the purge record is removed, the result kept, and one PURGE-DONE notice queued (R62). -/
def State.endPurge (s : State) (p : Purge) (cancelled : Bool) : State :=
  (s.withBank { s.bank with purge := none, stop := .none, lastPurge := if cancelled then .cancelled else .done }).notify
    (.purgeDone cancelled p)

/-- R53: a record boundary. The cursor advances; then the end of the range (R56, R57, R59), a pending stop (R57, R59), or nothing until
the next visit. -/
def State.boundary (s : State) (p : Purge) : State :=
  let p1 := { p with cursor := p.cursor + 1, visiting := false }
  match decide (p.last < p.cursor + 1), s.bank.stop with
  | true, .cancel => (s.endPurge p1 true).answerOnce .ok Flags.none []
  | true, .suspend => (s.endPurge p1 false).answerOnce .badState Flags.none []
  | true, .none => s.endPurge p1 false
  | false, .cancel => (s.endPurge p1 true).answerOnce .ok Flags.none []
  | false, .suspend =>
    (s.withBank { s.bank with purge := some { p1 with active := false }, stop := .none }).answerOnce .ok Flags.none []
  | false, .none => s.withBank { s.bank with purge := some p1 }

/-- R55: the record under the cursor is finished once nothing of it is in flight: emptied or barred, counted, and the visit ends at a
record boundary. -/
def State.finishPurged (s : State) : State :=
  match s.bank.purge with
  | some p =>
    let a := bankSlot p.bank p.cursor
    let r := s.record a
    if p.visiting ∧ r.state = .purging ∧ r.drained then
      (s.emptyRecord a (if p.barred then .barred else .empty) .purged).boundary { p with purged := p.purged + 1 }
    else s
  | none => s

/-! ### What waits on an in-flight count -/

/-- R30, R121: what the Store does in the change that brings a count of record `a` to 0, or that begins to wait on one that is 0: the
destruction of a RETIRING key with a deferred rollover (R84, R73, R136), the emptying of a DRAINING record (R87), the finishing of a
purged record (R55). -/
def State.storeActs (s : State) (a : AssocId) : State :=
  let s1 := s.destroyRetired a
  match (s1.record a).state with
  | .draining => s1.drainEnd a
  | .purging => s1.finishPurged
  | _ => s1

/-! ### Bank states (R43) -/

/-- The four states of a bank, in the order of section 3.1. -/
inductive BankState where
  | serving
  | installing
  | purging
  | purgeSuspended
  deriving DecidableEq, Repr

/-- R43: a bank's state follows from the install in progress and the purge record. -/
def BankUnit.stateOf (u : BankUnit) (b : BankId) : BankState :=
  if (u.install.map fun i => bankOf i.index) = some b then .installing
  else
    match u.purge with
    | some p => if p.bank = b then (if p.active then .purging else .purgeSuspended) else .serving
    | none => .serving

/-- R43: the bank that is INSTALLING or PURGING, if any. -/
def BankUnit.operating (u : BankUnit) : Option BankId :=
  (List.finRange 4).find? fun b => u.stateOf b == .installing || u.stateOf b == .purging

/-- R43: the Store is ready when no bank is INSTALLING or PURGING. -/
def BankUnit.ready (u : BankUnit) : Bool := u.operating.isNone

end Sys2Proof.Machine
end

