-- ==== Sys2Proof/Machine/Opening.lean ====
section
/-! DEFINITION. The opening path (chapter 7) from the head of a queue on, and what happens at the head of every queue: the release of
VERIFIED heads, the departure of DROPPED heads, the PORT-DOWN drop. Also the grace and ingress-hold events. -/

namespace Sys2Proof.Machine

/-- R132 step 3, R135, R136: an entry released under the READY NXT key of a LIVE record requests the ingress rollover: it is made when
OLD is ABSENT, and marked as wanted otherwise. -/
def State.requestRollover (s : State) (a : AssocId) (p : Phase) : State :=
  let r := s.record a
  match r.nxt with
  | some k =>
    if k.phase = p ∧ k.state = .ready ∧ r.state = .live then
      if r.old.isNone then s.rollIngress a else s.setRecord a { r with wanted := true }
    else s
  | none => s

/-- R134: an opened cover frame at the head is consumed. -/
def State.consumeCover (s : State) (n : LinkId) (a : AssocId) (e : Entry) : State :=
  let s1 := s.popHead .ingress n
  let p := s1.path .ingress n
  let s2 := s1.setPath .ingress n { p with counters := { p.counters with coverReceived := sat48 p.counters.coverReceived 1 } }
  let r := s2.record a
  (s2.setRecord a { r with frames := sat48 r.frames 1 }).freeCells .ingress n e.cells

/-- R132 step 7: the head becomes DONE with the restored frame. -/
def State.handOver (s : State) (n : LinkId) (e : Entry) (frame : Bytes) : State :=
  s.setQueue .ingress n ({ e with state := .done, data := frame } :: (s.path .ingress n).queue.tail)

/-- R132 steps 4 to 7: unpadding, cover recognition, the port test and the hand-over of a head whose packet number has been marked. -/
def State.deliver (s : State) (n : LinkId) (a : AssocId) (e : Entry) : State :=
  match restoreFrame e.env.x e.env.padded e.data with
  | none => s.dropHead .ingress n .badPad
  | some (frame, firstTwo) =>
    if firstTwo = (s.params n).coverCode then s.consumeCover n a e
    else if (s.port .rack n).up then s.handOver n e frame
    else s.dropHead .ingress n .portDown

/-- R130: the window of a record's key after packet number `pn` has passed its final check. -/
def Record.acceptPn (r : Record) (p : Phase) (pn : Nat) : Record :=
  r.mapKey p fun k => { k with window := k.window.accept pn }

/-- R132: the release of the VERIFIED head of link `n`. -/
def State.releaseHead (s : State) (n : LinkId) : State :=
  match (s.path .ingress n).queue with
  | [] => s
  | e :: _ =>
    if e.state = .verified then
      match e.assoc, e.key, e.pn with
      | some a, some p, some pn =>
        match (s.record a).keyOf p with
        | none => s
        | some k =>
          match k.window.test pn with
          | some why => s.dropHead .ingress n why
          | none => ((s.setRecord a ((s.record a).acceptPn p pn)).requestRollover a p).deliver n a e
      | _, _, _ => s
    else s

/-- R113, R116, R117: what leaves the head of a queue in the change that exposes it: DROPPED heads, and while the port is DOWN every
DONE head (with PORT-DOWN) and every VERIFIED head (after its release). `k` bounds the heads looked at. -/
def State.settleHeads (d : Dir) (n : LinkId) : (k : Nat) → State → State
  | 0, s => s
  | k + 1, s =>
    match (s.path d n).queue with
    | [] => s
    | e :: _ =>
      match e.state with
      | .dropped _ => State.settleHeads d n k (s.popHead d n)
      | .done =>
        if (s.port (sendSide d) n).up then s else State.settleHeads d n k (s.dropHead d n .portDown)
      | .verified =>
        if (s.port (sendSide d) n).up ∨ d = .egress then s else State.settleHeads d n k (s.releaseHead n)
      | _ => s

/-- The heads of one queue at the end of a change (R113, R117). -/
def State.settle (s : State) (d : Dir) (n : LinkId) : State := State.settleHeads d n (s.path d n).queue.length s

/-- The end of a change to one queue: its heads, then the transmit line's choice (R169). The notices of these heads come after every
other notice of the change (log 16). -/
def State.finish (s : State) (d : Dir) (n : LinkId) : State := (s.settle d n).pump

/-! ### Holds at their deadline (R81, R127) -/

/-- The hold start and hold deadline of a record's hold in a queue: all its entries share them (R79, R125). -/
def holdTimesOf (q : List Entry) (a : AssocId) : Option (Nat × Nat) :=
  q.findSome? fun e => if e.assoc = some a then (match e.state with | .held st dl => some (st, dl) | _ => none) else none

/-- R81, R127: at the deadline of a hold that still exists all its entries are dropped with HOLD-EXPIRED and one notice is queued. -/
def State.expireHold (s : State) (d : Dir) (a : AssocId) : State :=
  let r := s.record a
  let q := (s.path d r.link).queue
  match holdTimesOf q a with
  | none => s
  | some (_, deadline) =>
    let count := (q.filter (Entry.isHeldOf a)).length
    ((((s.withNow (max s.now deadline)).dropEntries d r.link (Entry.isHeldOf a) .holdExpired).notify
      (.holdExpired r.link a r.generation count)).finish d r.link)

/-- HOLD_DEADLINE (R81). -/
def execHoldDeadline (a : AssocId) (s : State) : Host.Outcome State Fault Refusal := .next (s.expireHold .egress a)

/-- INGRESS_HOLD_DEADLINE (R127). -/
def execIngressHoldDeadline (a : AssocId) (s : State) : Host.Outcome State Fault Refusal := .next (s.expireHold .ingress a)

/-! ### Grace, destruction, deferred rollovers, drains -/

/-- R137: at the grace deadline the OLD key leaves GRACE and becomes RETIRING, and is destroyed at once when nothing refers to it. -/
def State.expireGrace (s : State) (a : AssocId) : State :=
  let r := s.record a
  match r.old with
  | some k =>
    match k.graceAt with
    | some t =>
      if k.state = .grace then
        (((s.withNow (max s.now t)).setRecord a { r with old := some { k with state := .retiring, graceAt := none } }).storeActs a).finish
          r.dir r.link
      else s
    | none => s
  | none => s

/-- GRACE_EXPIRY (R137). -/
def execGraceExpiry (a : AssocId) (s : State) : Host.Outcome State Fault Refusal := .next (s.expireGrace a)

/-- RETIRING_KEY_DESTROYED (R84). -/
def execRetiringKeyDestroyed (a : AssocId) (s : State) : Host.Outcome State Fault Refusal :=
  .next ((s.destroyRetired a).finish (s.record a).dir (s.record a).link)

/-- DEFERRED_ROLLOVER (R73): of an egress record. -/
def execDeferredRollover (a : AssocId) (s : State) : Host.Outcome State Fault Refusal :=
  .next (if (s.record a).dir = .egress then (s.deferredRollover a).pump else s)

/-- DEFERRED_INGRESS_ROLLOVER (R136): of an ingress record. -/
def execDeferredIngressRollover (a : AssocId) (s : State) : Host.Outcome State Fault Refusal :=
  .next (if (s.record a).dir = .ingress then (s.deferredRollover a).pump else s)

/-- DRAIN_END (R87). -/
def execDrainEnd (a : AssocId) (s : State) : Host.Outcome State Fault Refusal :=
  .next ((s.drainEnd a).finish (s.record a).dir (s.record a).link)

/-- HEAD_RELEASE (R132). -/
def execHeadRelease (n : LinkId) (s : State) : Host.Outcome State Fault Refusal := .next ((s.releaseHead n).finish .ingress n)

end Sys2Proof.Machine
end

