-- ==== Sys2Proof/Machine/KeyUsage.lean ====
section
/-! DEFINITION. Dispatch: the envelope arithmetic with its cells (R7 to R11) and the key usage decision (R64 to R82) for a frame or a
cover entry bound to an egress record. -/

namespace Sys2Proof.Machine

/-- R66, R67, R68: the CUR key of a record gives the entry its next packet number and is charged; the entry joins the queue WAITING. -/
def State.takeUnderCur (s : State) (n : LinkId) (a : AssocId) (e : Entry) : State :=
  let r := s.record a
  match r.cur with
  | some k =>
    (s.setRecord a { r with cur := some (k.charge e.env.charge) }).append .egress n
      { e with state := .waiting, pn := some k.n, key := some k.phase }
  | none => s

/-- R69, R70: the soft test after a charge that gave out `pn`: the crossing rolls the record over, or sets the soft flag with a
SOFT-LIMIT notice. -/
def State.softTest (s : State) (a : AssocId) (pn : Nat) : State :=
  let r := s.record a
  match r.cur with
  | some k =>
    match softTestMet r.params k pn with
    | none => s
    | some t =>
      let crossed := { r with cur := some { k with crossed := true } }
      if r.params.autoRollover ∧ slotIs r.nxt .ready ∧ r.old.isNone then (s.setRecord a crossed).rollEgress a .soft
      else (s.setRecord a { r with cur := some { k with crossed := true, soft := true } }).notify (softNotice a r k pn t)
  | none => s

/-- R65 step 3: packet number, charge and soft test. -/
def State.dispatchUnderCur (s : State) (n : LinkId) (a : AssocId) (e : Entry) : State :=
  (s.takeUnderCur n a e).softTest a (((s.record a).cur.map Key.n).getD 0)

/-- R75, R78: a frame that must wait: HELD with the times of its hold, or the reason it is dropped. -/
def State.holdEntry (s : State) (n : LinkId) (a : AssocId) (e : Entry) : State × Option Reason :=
  let q := (s.path .egress n).queue
  if (s.record a).params.holdPolicy = .discard ∨ e.kind = .cover then (s, some .exhausted)
  else if Config.heldPlaces ≤ heldCount q then (s, some .holdFull)
  else
    let times := (holdTimesOf q a).getD (s.now, s.now + (s.params n).holdTimeout * Config.usTicks)
    (s.append .egress n { e with state := .held times.1 times.2, pn := none, key := none }, none)

/-- R63, R73: the rollover-wanted marker is set. -/
def State.wantRollover (s : State) (a : AssocId) : State := s.setRecord a { s.record a with wanted := true }

/-- R76: the EXHAUSTED notice of a record whose CUR key cannot take a frame of charge `b`. -/
def exhaustedNotice (a : AssocId) (r : Record) (k : Key) (b : Nat) : Notice :=
  .exhausted a r.link r.generation k.phase k.check (if k.state = .spent then .spent else .cap) k.u b

/-- R76: NXT is ABSENT: the frame is dropped with EXHAUSTED, and a LIVE record becomes EXHAUSTED with its notice. -/
def State.exhaust (s : State) (a : AssocId) (b : Nat) : State :=
  let r := s.record a
  match r.cur with
  | some k =>
    if r.state = .live then (s.setRecord a { r with wanted := true, state := .exhausted }).notify (exhaustedNotice a r k b)
    else s.wantRollover a
  | none => s.wantRollover a

/-- R74 to R76: what follows when the CUR key cannot take a frame. -/
def State.cannotTake (s : State) (n : LinkId) (a : AssocId) (e : Entry) : State × Option Reason :=
  let r := s.record a
  if r.nxt.isNone then (s.exhaust a e.env.charge, some .exhausted)
  else if r.canRoll then ((s.rollEgress a .limit).dispatchUnderCur n a e, none)
  else (s.wantRollover a).holdEntry n a e

/-- R65: the key usage decision. The entry joins the queue, or the reason of its drop is answered. -/
def State.keyUse (s : State) (n : LinkId) (a : AssocId) (e : Entry) : State × Option Reason :=
  let r := s.record a
  if (s.path .egress n).queue.any (Entry.isHeldOf a) then s.holdEntry n a e
  else if r.state ≠ .exhausted ∧ r.usable e.env.charge then (s.dispatchUnderCur n a e, none)
  else s.cannotTake n a e

/-- An egress entry of record `a` before the key usage decision (R107). -/
def newEntry (kind : EntryKind) (a : AssocId) (v : EnvValues) (cells coverCode : Nat) (data : Bytes) : Entry :=
  { kind := kind, verdict := .encrypt, assoc := some a, key := none, pn := none, phase := 0, env := v, cells := cells,
    coverCode := coverCode, data := data, state := .waiting }

/-- R9: a reduction of padding is counted once. -/
def State.countReduced (s : State) (n : LinkId) (reduced : Bool) : State :=
  if reduced then
    let p := s.path .egress n
    s.setPath .egress n { p with counters := { p.counters with clampedPadding := sat48 p.counters.clampedPadding 1 } }
  else s

/-- R64, R7 to R11, R65: the dispatch of a frame of `len` bytes that holds `own` cells already: the arithmetic, the cells, the key. A
frame that is dropped gives its cells back and is counted; the reason is answered. -/
def State.dispatch (s : State) (n : LinkId) (a : AssocId) (kind : EntryKind) (len own : Nat) (x : Bool) (coverCode : Nat)
    (data : Bytes) : State × Option Reason :=
  match envelopeOf len x (s.record a).params.quantum (s.params n).campusMax with
  | none => (s.dropFrame .egress n .tooLarge own, some .tooLarge)
  | some (v, reduced) =>
    let s1 := s.countReduced n reduced
    let total := cellsFor v.envLen
    if (s1.path .egress n).free < total - own then (s1.dropFrame .egress n .noBuffer own, some .noBuffer)
    else
      let (s2, why) := (s1.takeCells .egress n (total - own)).keyUse n a (newEntry kind a v (max own total) coverCode data)
      match why with
      | none => (s2, none)
      | some why => (s2.dropFrame .egress n why (max own total), some why)

/-- R92: the binding check of a frame or cover entry of link `n` against record `a`. -/
def bindEgress (r : Record) (n : LinkId) : Option Reason :=
  if r.dir ≠ .egress ∨ r.link ≠ n then some .noKey
  else
    match r.state with
    | .draining => some .retired
    | .purging => some .purged
    | .empty | .opened | .barred => some .noKey
    | .live | .exhausted => none

end Sys2Proof.Machine
end

