-- ==== Sys2Proof/Machine/Classify.lean ====
section
/-! DEFINITION. The classifier (chapter 5): range rules, the flow table, egress and ingress classification, and the entry of envelopes
into the opening path (R124 to R129). -/

namespace Sys2Proof.Machine

/-! ### Range rules (R93) -/

/-- R93: the value a rule's field takes from a frame. -/
def RuleField.value (f : RuleField) (frame : Bytes) : Nat :=
  match f with
  | .vidCode => Sys2Proof.Machine.vidCode frame
  | .etherType => Sys2Proof.Machine.etherType frame
  | .daByte => (byteAt frame 0).toNat

/-- Table 5-2: the greatest value of a rule's field. -/
def RuleField.max : RuleField → Nat
  | .vidCode => 4096
  | .etherType => 0xFFFF
  | .daByte => 0xFF

/-- The place of a direction in a direction set (R166). -/
def dirBit : Dir → Nat
  | .egress => 0
  | .ingress => 1

/-- R93: whether a rule applies to a link and direction. -/
def RangeRule.applies (r : RangeRule) (d : Dir) (n : LinkId) : Bool :=
  r.enabled && r.links.getLsbD n.val && r.dirs.getLsbD (dirBit d)

/-- R93: whether a rule matches a frame. -/
def RangeRule.matches (r : RangeRule) (frame : Bytes) : Bool :=
  let v := r.field.value frame
  let within := decide (r.low ≤ v) && decide (v ≤ r.high)
  match r.sense with
  | .inside => within
  | .outside => !within

/-- R89 step 2, R105: the verdict of the lowest-indexed rule that applies and matches. -/
def State.ruleVerdict (s : State) (d : Dir) (n : LinkId) (frame : Bytes) : Option RuleVerdict :=
  (s.rules.toList.find? fun r => r.applies d n && r.matches frame).map RangeRule.verdict

/-! ### The flow table (R97, R98) -/

/-- R97: the bucket of a key. -/
def FlowKey.bucket (k : FlowKey) : Fin 1024 :=
  let term := match k.addr with
    | some da => numAt da 0 2 ^^^ numAt da 2 2 ^^^ numAt da 4 2
    | none => 0x02AA
  ⟨(k.vid ^^^ (k.link.val * 256) ^^^ term) % 1024, Nat.mod_lt _ (by decide)⟩

/-- The chain of a bucket. -/
def FlowTable.chain (t : FlowTable) (b : Fin 1024) : List FlowEntry := t.chains[b]

/-- Writes the chain of a bucket. -/
def FlowTable.setChain (t : FlowTable) (b : Fin 1024) (c : List FlowEntry) : FlowTable := { t with chains := t.chains.set b c }

/-- R98: the entry of a key. -/
def FlowTable.find (t : FlowTable) (k : FlowKey) : Option FlowEntry := (t.chain k.bucket).find? fun e => e.key == k

/-- R98: the hit count of the entry found rises. -/
def FlowTable.hit (t : FlowTable) (k : FlowKey) : FlowTable :=
  t.setChain k.bucket ((t.chain k.bucket).map fun e => if e.key = k then { e with hits := sat32 e.hits 1 } else e)

/-- R89 steps 3 and 4: the key whose entry decides a frame: the exact key when it has an entry, the ANY key otherwise. -/
def State.flowKeyFor (s : State) (n : LinkId) (frame : Bytes) : Option FlowKey :=
  let exact : FlowKey := { link := n, vid := vidCode frame, addr := some (destAddr frame) }
  let any : FlowKey := { link := n, vid := vidCode frame, addr := none }
  if (s.flow.find exact).isSome then some exact else if (s.flow.find any).isSome then some any else none

/-! ### Egress (R89 to R92) -/

/-- R91, R105: the order-queue entry of a frame that crosses in clear. -/
def bypassEntry (frame : Bytes) : Entry :=
  { kind := .frame, verdict := .bypass, assoc := none, key := none, pn := none, phase := 0, env := envValues false 0 0 false 0,
    cells := cellsFor frame.length, coverCode := 0, data := frame, state := .done }

/-- R109: whether a queue has no place left. -/
def State.queueFull (s : State) (d : Dir) (n : LinkId) : Bool := decide (Config.queuePlaces ≤ (s.path d n).queue.length)

/-- R91, R105, R109: a frame that may cross in clear takes its place in state DONE. -/
def State.enterBypass (s : State) (d : Dir) (n : LinkId) (frame : Bytes) : State :=
  if s.queueFull d n then s.dropFrame d n .orderFull (cellsFor frame.length) else s.append d n (bypassEntry frame)

/-- R91: a BYPASS verdict on egress. -/
def State.egressBypass (s : State) (n : LinkId) (frame : Bytes) : State :=
  match (s.link n).mode with
  | .selective => s.enterBypass .egress n frame
  | _ => s.dropFrame .egress n .bypassBarred (cellsFor frame.length)

/-- R92, R109, R64: an ENCRYPT verdict for record `a`. -/
def State.egressEncrypt (s : State) (n : LinkId) (a : AssocId) (frame : Bytes) : State :=
  let cells := cellsFor frame.length
  match bindEgress (s.record a) n with
  | some why => s.dropFrame .egress n why cells
  | none =>
    if s.queueFull .egress n then s.dropFrame .egress n .orderFull cells
    else
      (s.dispatch n a .frame frame.length cells ((s.record a).params.expose && isTagged frame) 0 frame).1

/-- R90, R91: the verdict of a flow entry or of the link default. -/
def State.egressVerdict (s : State) (n : LinkId) (frame : Bytes) (v : Verdict) (assoc : Option AssocId) : State :=
  match v, assoc with
  | .discard, _ => s.dropFrame .egress n .flowDiscard (cellsFor frame.length)
  | .bypass, _ => s.egressBypass n frame
  | .encrypt, some a => s.egressEncrypt n a frame
  | .encrypt, none => s.dropFrame .egress n .noKey (cellsFor frame.length)

/-- R89 steps 3 to 5: flow entries, then the link default. -/
def State.egressFlow (s : State) (n : LinkId) (frame : Bytes) : State :=
  match s.flowKeyFor n frame with
  | some k =>
    match s.flow.find k with
    | some e => (s.withFlow (s.flow.hit k)).egressVerdict n frame e.verdict e.assoc
    | none => s
  | none => s.egressVerdict n frame (s.params n).defVerdict (s.params n).defAssoc

/-- R89: the classification of a rack frame that has left the stored frames of link `n`. -/
def State.egressFrame (s : State) (n : LinkId) (frame : Bytes) : State :=
  match (s.link n).mode with
  | .halt => s.dropFrame .egress n .halted (cellsFor frame.length)
  | .cover => s.dropFrame .egress n .coverMode (cellsFor frame.length)
  | _ =>
    match s.ruleVerdict .egress n frame with
    | some .discard => s.dropFrame .egress n .ruleDiscard (cellsFor frame.length)
    | some .bypass => s.egressBypass n frame
    | none => s.egressFlow n frame

/-- EGRESS_CLASSIFICATION (R88, R89): the oldest stored rack frame of link `n`. -/
def State.classifyEgress (s : State) (n : LinkId) : State :=
  let p := s.path .egress n
  match p.stored with
  | [] => s
  | f :: rest => ((s.setPath .egress n { p with stored := rest }).egressFrame n f).finish .egress n

/-- EGRESS_CLASSIFICATION (R89). -/
def execEgressClassification (n : LinkId) (s : State) : Host.Outcome State Fault Refusal := .next (s.classifyEgress n)

/-! ### Ingress (R102 to R105, R124 to R129) -/

/-- What the phase of an envelope selects (R124). -/
inductive Selected where
  | key (k : Key)
  | loading
  | nothing
  deriving DecidableEq, Repr

/-- R124: the slot whose phase is `p`. -/
def Record.select (r : Record) (p : Phase) : Selected :=
  match r.keyOf p with
  | some k =>
    match k.state with
    | .inUse | .ready | .grace => .key k
    | .loading => if (r.nxt.map Key.phase) = some p then .loading else .nothing
    | .spent | .retiring => .nothing
  | none => .nothing

/-- R104: the binding check of an envelope of link `n` against record `c`. -/
def bindIngress (r : Record) (n : LinkId) : Option Reason :=
  if r.dir ≠ .ingress ∨ r.link ≠ n then some .noKey
  else
    match r.state with
    | .draining => some .retired
    | .purging => some .purged
    | .empty | .opened | .barred | .exhausted => some .noKey
    | .live => none

/-- R103: the header of an envelope. -/
structure Header where
  phase : Phase
  padded : Bool
  channel : Nat
  pn : Nat
  deriving DecidableEq, Repr

/-- R103, Table 1-1: the header fields of an envelope. -/
def headerOf (x : Bool) (f : Bytes) : Header :=
  let flags := (byteAt f (14 + tagBytes x)).toNat
  { phase := ⟨flags / 4 % 4, Nat.mod_lt _ (by decide)⟩, padded := flags / 2 % 2 == 1, channel := numAt f (16 + tagBytes x) 2,
    pn := numAt f (18 + tagBytes x) 4 }

/-- R103: whether the header of an envelope fails its validation. -/
def badHeader (x : Bool) (f : Bytes) : Bool :=
  decide (f.length < 60 + tagBytes x) || (byteAt f (14 + tagBytes x)).toNat / 16 != 1 || decide (2047 < (headerOf x f).channel)

/-- R125, R129: the entry of an envelope (R107). -/
def openEntry (a : AssocId) (x : Bool) (h : Header) (f : Bytes) : Entry :=
  { kind := .frame, verdict := .opening, assoc := some a, key := none, pn := some h.pn, phase := h.phase,
    env := { envValues x 0 0 h.padded (f.length - 42 - tagBytes x) with charge := 0 }, cells := cellsFor f.length, coverCode := 0,
    data := f, state := .waiting }

/-- R125: an envelope whose phase selects a LOADING NXT key. -/
def State.holdIngress (s : State) (n : LinkId) (a : AssocId) (e : Entry) : State × Option Reason :=
  let q := (s.path .ingress n).queue
  if e.pn = some 0 then (s, some .badPn)
  else if (s.record a).params.holdPolicy = .discard then (s, some .unknownPhase)
  else if Config.heldPlaces ≤ heldCount q then (s, some .holdFull)
  else
    let times := (holdTimesOf q a).getD (s.now, s.now + (s.params n).holdTimeout * Config.usTicks)
    (s.append .ingress n { e with state := .held times.1 times.2 }, none)

/-- R124, R125, R129: phase selection, the pre-check, and the entry. -/
def State.enterEnvelope (s : State) (n : LinkId) (a : AssocId) (e : Entry) : State × Option Reason :=
  match (s.record a).select e.phase with
  | .nothing => (s, some .unknownPhase)
  | .loading => s.holdIngress n a e
  | .key k =>
    match k.window.test (e.pn.getD 0) with
    | some why => (s, some why)
    | none =>
      ((s.setRecord a ((s.record a).mapKey e.phase Key.hold)).append .ingress n { e with state := .waiting, key := some e.phase }, none)

/-- R103, R104, R109: an envelope of link `n`. -/
def State.ingressEnvelope (s : State) (n : LinkId) (x : Bool) (f : Bytes) : State :=
  let cells := cellsFor f.length
  let h := headerOf x f
  if badHeader x f then s.dropFrame .ingress n .badHeader cells
  else
    match toAssoc? h.channel with
    | none => s.dropFrame .ingress n .badHeader cells
    | some a =>
      match bindIngress (s.record a) n with
      | some why => s.dropFrame .ingress n why cells
      | none =>
        if s.queueFull .ingress n then s.dropFrame .ingress n .orderFull cells
        else
          match s.enterEnvelope n a (openEntry a x h f) with
          | (s1, none) => s1
          | (s1, some why) => s1.dropFrame .ingress n why cells

/-- R105: a clear frame of link `n`. -/
def State.ingressClear (s : State) (n : LinkId) (f : Bytes) : State :=
  let cells := cellsFor f.length
  match (s.link n).mode with
  | .selective =>
    match s.ruleVerdict .ingress n f with
    | some .bypass => s.enterBypass .ingress n f
    | some .discard => s.dropFrame .ingress n .ruleDiscard cells
    | none => s.dropFrame .ingress n .clearBarred cells
  | _ => s.dropFrame .ingress n .clearBarred cells

/-- R102: the classification of a campus frame that has left the stored frames of link `n`. -/
def State.ingressFrame (s : State) (n : LinkId) (f : Bytes) : State :=
  match (s.link n).mode with
  | .halt => s.dropFrame .ingress n .halted (cellsFor f.length)
  | _ => if etherType f = (s.params n).envType then s.ingressEnvelope n (isTagged f) f else s.ingressClear n f

/-- INGRESS_CLASSIFICATION (R88, R102): the oldest stored campus frame of link `n`. -/
def State.classifyIngress (s : State) (n : LinkId) : State :=
  let p := s.path .ingress n
  match p.stored with
  | [] => s
  | f :: rest => ((s.setPath .ingress n { p with stored := rest }).ingressFrame n f).finish .ingress n

/-- INGRESS_CLASSIFICATION (R102). -/
def execIngressClassification (n : LinkId) (s : State) : Host.Outcome State Fault Refusal := .next (s.classifyIngress n)

end Sys2Proof.Machine
end

