-- ==== Sys2Proof/Machine/Cover.lean ====
section
/-! DEFINITION. The cover generator (R156 to R159): what one expiry of a link's cover timer does. -/

namespace Sys2Proof.Machine

/-- Writes the cover generator of link `n`. -/
def State.setCover (s : State) (n : LinkId) (c : CoverGen) : State := s.setLink n { s.link n with cover := c }

/-- R159: the cause of a failure that stalls the link; a NO-BUFFER drop is none. -/
def stallCauseOf : Reason → Option StallCause
  | .noKey => some .noKey
  | .retired => some .retired
  | .purged => some .purged
  | .tooLarge => some .tooLarge
  | .exhausted => some .exhausted
  | _ => none

/-- R159: a failed cover attempt stalls the link, with one notice when it was not stalled. -/
def State.stall (s : State) (n : LinkId) (cause : StallCause) : State :=
  let c := (s.link n).cover
  if c.stalled then s
  else
    let a := (s.params n).coverAssoc
    (s.setCover n { c with stalled := true }).notify
      (.coverStalled n (a.map fun a => (a, (s.record a).generation, (s.record a).state)) cause)

/-- R159: what the outcome of a cover attempt does to the stall flag: an entry made clears it, a failure may set it. -/
def State.coverOutcome (s : State) (n : LinkId) (why : Option Reason) : State :=
  match why with
  | none => s.setCover n { (s.link n).cover with stalled := false }
  | some r =>
    match stallCauseOf r with
    | some cause => s.stall n cause
    | none => s

/-- R147: an expiry that reaches the binding check is counted in cover-formed. -/
def State.countFormed (s : State) (n : LinkId) : State :=
  let p := s.path .egress n
  s.setPath .egress n { p with counters := { p.counters with coverFormed := sat48 p.counters.coverFormed 1 } }

/-- R157 steps 3 to 6: binding, envelope, cells and key usage of a cover entry under record `a`. An EXHAUSTED notice of the key usage
decision is queued before COVER-STALLED (log 16). -/
def State.formCover (s : State) (n : LinkId) (a : AssocId) : State :=
  let s1 := s.countFormed n
  match bindEgress (s1.record a) n with
  | some why => (s1.countDrop .egress n why 1).coverOutcome n (some why)
  | none =>
    match s1.dispatch n a .cover (s1.params n).coverLen 0 false (s1.params n).coverCode [] with
    | (s2, why) => s2.coverOutcome n why

/-- R157: the attempt to make one cover entry: capacity, association, then the rest. -/
def State.tryCover (s : State) (n : LinkId) : State :=
  if s.queueFull .egress n then
    s.setCover n { (s.link n).cover with skipped := sat32 (s.link n).cover.skipped 1 }
  else
    match (s.params n).coverAssoc with
    | none => s.stall n .noneSet
    | some a => s.formCover n a

/-- R155, R157: the next expiry is one cover interval after the one that ends now. -/
def State.scheduleCover (s : State) (n : LinkId) (after : Nat) : State :=
  s.setCover n { (s.link n).cover with nextAt := some (after + (s.params n).coverInterval * Config.usTicks) }

/-- R157: an expiry of the running cover timer of link `n`. -/
def State.coverExpiry (s : State) (n : LinkId) : State :=
  match (s.link n).cover.nextAt with
  | some t => ((((s.withNow (max s.now t)).scheduleCover n t).tryCover n).finish .egress n)
  | none => s

/-- COVER_TIMER_EXPIRY (R157). -/
def execCoverTimerExpiry (n : LinkId) (s : State) : Host.Outcome State Fault Refusal := .next (s.coverExpiry n)

end Sys2Proof.Machine
end

