-- ==== Sys2Proof/Machine/Flags.lean ====
section
/-! DEFINITION. What happens to a value that software gives (00_scope.md section 5.7): taken, clamped or held, and the CLAMPED and HELD
flags of the reply. -/

namespace Sys2Proof.Machine

/-- A value after its handling: what the field takes, and whether the given value was clamped or held. -/
structure Handled (α : Type) where
  value : α
  clamped : Bool
  held : Bool
  deriving DecidableEq, Repr

/-- A value taken as given, or a field left as it is. -/
def Handled.take {α : Type} (v : α) : Handled α := { value := v, clamped := false, held := false }

/-- A value that is set aside: the field keeps `prev`. -/
def Handled.hold {α : Type} (prev : α) : Handled α := { value := prev, clamped := false, held := true }

/-- The flags a handled value gives to its reply. -/
def Handled.flags {α : Type} (h : Handled α) : Flags := { clamped := h.clamped, held := h.held, repeatIgnored := false }

/-- A number clamped to the nearest bound of `lo` to `hi`. -/
def clampTo (lo hi v : Nat) : Handled Nat :=
  { value := min hi (max lo v), clamped := decide (v < lo) || decide (hi < v), held := false }

/-- An enumerated value, held when it is outside its set. -/
def holdUnless {α : Type} (prev : α) (v : Option α) : Handled α :=
  match v with
  | some v => .take v
  | none => .hold prev

/-- The flags of several parts of one request. -/
def Flags.join (a b : Flags) : Flags :=
  { clamped := a.clamped || b.clamped, held := a.held || b.held, repeatIgnored := a.repeatIgnored || b.repeatIgnored }

end Sys2Proof.Machine
end

