-- ==== Sys2Proof/Machine/Operands.lean ====
section
/-! DEFINITION. The operands of requests: the enumerated values of their bodies (R166), the parameters of a record (Table 2-2) and of a
link (Table 9-1) with their markers, and the condition of a request (R32). -/

namespace Sys2Proof.Machine

/-! ### Enumerated values -/

/-- R166: a yes/no value, when the byte is one. -/
def yesNo? (v : Nat) : Option Bool :=
  match v with
  | 0 => some false
  | 1 => some true
  | _ => none

/-- Table 2-2: HOLD, DISCARD. -/
def HoldPolicy.ofCode (v : Nat) : Option HoldPolicy :=
  match v with
  | 0 => some .hold
  | 1 => some .discard
  | _ => none

/-- Table 2-1: EGRESS, INGRESS. -/
def dirOfCode (v : Nat) : Option Dir :=
  match v with
  | 0 => some .egress
  | 1 => some .ingress
  | _ => none

/-- Table 2-2: a pad quantum. -/
def quantum? (v : Nat) : Option Nat := if v = 0 ∨ v = 16 ∨ v = 64 ∨ v = 256 then some v else none

/-- Table 5-2: VID CODE, ETHERTYPE, DA-BYTE. -/
def RuleField.ofCode (v : Nat) : Option RuleField :=
  match v with
  | 0 => some .vidCode
  | 1 => some .etherType
  | 2 => some .daByte
  | _ => none

/-- R93: INSIDE, OUTSIDE. -/
def Sense.ofCode (v : Nat) : Option Sense :=
  match v with
  | 0 => some .inside
  | 1 => some .outside
  | _ => none

/-- R93: BYPASS, DISCARD. -/
def RuleVerdict.ofCode (v : Nat) : Option RuleVerdict :=
  match v with
  | 0 => some .bypass
  | 1 => some .discard
  | _ => none

/-- R153: an association value of a link parameter: an index, none for 0xFFFF, and nothing for the values between. -/
def linkAssoc? (v : Nat) : Option (Option AssocId) :=
  if v = 0xFFFF then some none else (toAssoc? v).map some

/-! ### The parameters of a record (R19) -/

/-- R166: whether a marker byte of OPEN-ASSOC or SET-ASSOC stands for a value; a byte that is neither 0 nor 1 is a free value (log 8). -/
def markerSet (b : Byte) : Bool := if b = 0 then false else if b = 1 then true else Config.strayMarker b

/-- R19: one parameter: left as it is when the record's direction does not use it or its marker gives no value. -/
def handleParam {α : Type} (applies : Bool) (marker : Byte) (prev : α) (h : Handled α) : Handled α :=
  if applies && markerSet marker then h else .take prev

/-- R19, Table 2-2: the eight parameters of a record of direction `d`, from the 21 bytes of `b`: their new values and the flags. -/
def applyAssocParams (d : Dir) (prev : AssocParams) (b : Bytes) : AssocParams × Flags :=
  let eg := d == .egress
  let pinned := handleParam true (byteAt b 0) prev.pinned (holdUnless prev.pinned (yesNo? (numAt b 1 1)))
  let auto := handleParam eg (byteAt b 2) prev.autoRollover (holdUnless prev.autoRollover (yesNo? (numAt b 3 1)))
  let policy := handleParam true (byteAt b 4) prev.holdPolicy (holdUnless prev.holdPolicy (HoldPolicy.ofCode (numAt b 5 1)))
  let expose := handleParam eg (byteAt b 6) prev.expose (holdUnless prev.expose (yesNo? (numAt b 7 1)))
  let quantum := handleParam eg (byteAt b 8) prev.quantum (holdUnless prev.quantum (quantum? (numAt b 9 2)))
  let softPn := handleParam eg (byteAt b 11) prev.softPn (clampTo 1 0xFFFFFFFF (numAt b 12 4))
  let capExp := handleParam eg (byteAt b 16) prev.capExp (clampTo 20 40 (numAt b 17 1))
  let window := handleParam (!eg) (byteAt b 18) prev.windowSize (clampTo 0 1024 (numAt b 19 2))
  ({ pinned := pinned.value, autoRollover := auto.value, holdPolicy := policy.value, expose := expose.value, quantum := quantum.value,
     softPn := softPn.value, capExp := capExp.value, windowSize := window.value },
   [pinned.flags, auto.flags, policy.flags, expose.flags, quantum.flags, softPn.flags, capExp.flags, window.flags].foldl Flags.join
     Flags.none)

/-- R166: the eight parameters in a report, in the order of Table 2-2. -/
def AssocParams.report (p : AssocParams) : Bytes :=
  yesNo p.pinned ++ yesNo p.autoRollover ++ [p.holdPolicy.code] ++ yesNo p.expose ++ u16 p.quantum ++ u32 p.softPn ++ u8 p.capExp
    ++ u16 p.windowSize

/-! ### The parameters of a link (R153, R154) -/

/-- Where the markers of Table 9-1 stand in the body of SET-LINK-PARAMS. -/
def linkMarkers : List Nat := [1, 4, 7, 10, 12, 15, 20, 25, 28, 31, 34, 37, 40, 43, 46, 49, 52]

/-- R153 check 3: whether every marker byte is 0 or 1. -/
def linkMarkersGood (b : Bytes) : Bool := linkMarkers.all fun i => byteAt b i == 0 || byteAt b i == 1

/-- R153: one parameter: left unchanged by marker 0. -/
def setParam {α : Type} (b : Bytes) (marker : Nat) (prev : α) (h : Handled α) : Handled α :=
  if byteAt b marker = 1 then h else .take prev

/-- R3, R154: an envelope type code. -/
def handleEnvType (prev v : Nat) : Handled Nat := if v = 0x8100 then .hold prev else clampTo 0x0600 0xFFFF v

/-- R143, R154: a buffer whose XON is at most its XOFF takes XOFF + 1. -/
def raiseXon (b : BufferParams) : Handled BufferParams :=
  if b.xon ≤ b.xoff then { value := { b with xon := b.xoff + 1 }, clamped := true, held := false } else .take b

/-- R153, R154: the parameters of a link after the body `b` of SET-LINK-PARAMS, and the flags. -/
def applyLinkParams (p : LinkParams) (b : Bytes) : LinkParams × Flags :=
  let envType := setParam b 1 p.envType (handleEnvType p.envType (numAt b 2 2))
  let rackMax := setParam b 4 p.rackMax (clampTo 1518 9216 (numAt b 5 2))
  let campusMax := setParam b 7 p.campusMax (clampTo 1518 9600 (numAt b 8 2))
  let verdict := setParam b 10 p.defVerdict (holdUnless p.defVerdict (Verdict.ofCode (numAt b 11 1)))
  let defAssoc := setParam b 12 p.defAssoc (holdUnless p.defAssoc (linkAssoc? (numAt b 13 2)))
  let hold := setParam b 15 p.holdTimeout (clampTo 10 10000 (numAt b 16 4))
  let grace := setParam b 20 p.graceInterval (clampTo 1 1000 (numAt b 21 4))
  let egXoff := setParam b 25 p.egressBuf.xoff (clampTo 1 2047 (numAt b 26 2))
  let inXoff := setParam b 28 p.ingressBuf.xoff (clampTo 1 2047 (numAt b 29 2))
  let egXon := setParam b 31 p.egressBuf.xon (clampTo 2 2048 (numAt b 32 2))
  let inXon := setParam b 34 p.ingressBuf.xon (clampTo 2 2048 (numAt b 35 2))
  let egQuanta := setParam b 37 p.egressBuf.quanta (clampTo 1 0xFFFF (numAt b 38 2))
  let inQuanta := setParam b 40 p.ingressBuf.quanta (clampTo 1 0xFFFF (numAt b 41 2))
  let interval := setParam b 43 p.coverInterval (clampTo 1 0xFFFF (numAt b 44 2))
  let len := setParam b 46 p.coverLen (clampTo 64 1518 (numAt b 47 2))
  let coverAssoc := setParam b 49 p.coverAssoc (holdUnless p.coverAssoc (linkAssoc? (numAt b 50 2)))
  let code := setParam b 52 p.coverCode (.take (numAt b 53 2))
  let eg := raiseXon { xoff := egXoff.value, xon := egXon.value, quanta := egQuanta.value }
  let ing := raiseXon { xoff := inXoff.value, xon := inXon.value, quanta := inQuanta.value }
  ({ envType := envType.value, rackMax := rackMax.value, campusMax := campusMax.value, defVerdict := verdict.value,
     defAssoc := defAssoc.value, holdTimeout := hold.value, graceInterval := grace.value, egressBuf := eg.value,
     ingressBuf := ing.value, coverInterval := interval.value, coverLen := len.value, coverAssoc := coverAssoc.value,
     coverCode := code.value },
   [envType.flags, rackMax.flags, campusMax.flags, verdict.flags, defAssoc.flags, hold.flags, grace.flags, egXoff.flags, inXoff.flags,
     egXon.flags, inXon.flags, egQuanta.flags, inQuanta.flags, interval.flags, len.flags, coverAssoc.flags, code.flags, eg.flags,
     ing.flags].foldl Flags.join Flags.none)

/-- R153: every parameter of a link in a reply, in the order of Table 9-1. R153 gives the widths of the request's values only: that the
reply's have the same, 4 bytes for the hold timeout and the grace interval among them, is the model's choice (log 9). -/
def LinkParams.report (p : LinkParams) : Bytes :=
  u16 p.envType ++ u16 p.rackMax ++ u16 p.campusMax ++ [p.defVerdict.code] ++ assocCode p.defAssoc ++ u32 p.holdTimeout
    ++ u32 p.graceInterval ++ u16 p.egressBuf.xoff ++ u16 p.ingressBuf.xoff ++ u16 p.egressBuf.xon ++ u16 p.ingressBuf.xon
    ++ u16 p.egressBuf.quanta ++ u16 p.ingressBuf.quanta ++ u16 p.coverInterval ++ u16 p.coverLen ++ assocCode p.coverAssoc
    ++ u16 p.coverCode

/-! ### Conditions (R32, Table 10-3) -/

/-- R29, R32: the soft flag of a record: that of a CUR key in IN-USE or SPENT, and clear otherwise. -/
def Record.softFlag (r : Record) : Bool :=
  match r.cur with
  | some k => (k.state == .inUse || k.state == .spent) && k.soft
  | none => false

/-- R32: whether condition `cond` with argument `carg` is true of a record. -/
def Record.meets (r : Record) (cond carg : Byte) : Bool :=
  match cond.toNat with
  | 0 => true
  | 1 => r.state == .empty
  | 2 => r.state == .opened
  | 3 => r.state == .live
  | 4 => r.state == .exhausted
  | 5 => r.softFlag
  | 6 => r.nxt.isNone
  | 7 => r.generation == carg.toNat
  | _ => false

/-- R29: the soft flag of the CUR key is cleared. -/
def Record.clearSoft (r : Record) : Record := { r with cur := r.cur.map fun k => { k with soft := false } }

/-- R32: IF-SOFT clears the soft flag of the record it tests. -/
def State.afterTest (s : State) (a : AssocId) (cond : Byte) : State :=
  if cond = 5 then s.setRecord a (s.record a).clearSoft else s

end Sys2Proof.Machine
end

