-- ==== Sys2Proof/Machine/Ports.lean ====
section
/-! DEFINITION. Ports, arrival, pause and transmission (R114, R115, R138 to R146). -/

namespace Sys2Proof.Machine

/-! ### PAUSE frames (R145) -/

/-- R145: the PAUSE frame with a quanta value, 64 bytes with its FCS. -/
def pauseFrame (quanta : Nat) : Bytes :=
  withFcs ([0x01, 0x80, 0xC2, 0x00, 0x00, 0x01] ++ zeros 6 ++ [0x88, 0x08, 0x00, 0x01] ++ u16 quanta ++ zeros 42)

/-- The quanta of a PAUSE frame that a port sends now (R143, R144). -/
def State.pauseQuanta (s : State) (d : Dir) (n : LinkId) : PauseKind → Nat
  | .stop => ((s.params n).buf d).quanta
  | .resume => 0

/-- R145: the resend interval of a PAUSING buffer restarts. -/
def State.restartResend (s : State) (d : Dir) (n : LinkId) : State :=
  let p := s.path d n
  if p.pausing then s.setPath d n { p with resendAt := some (s.now + resendInterval ((s.params n).buf d)) } else s

/-- PAUSE_FRAME_SEND (R145): at the transmitter's frame boundary the oldest PAUSE frame asked for goes out, whether or not the port's
own transmit is paused. -/
def State.sendPause (s : State) (side : Side) (n : LinkId) : State :=
  let p := s.port side n
  match p.pauseAsked with
  | [] => s
  | k :: rest =>
    if p.up = true ∧ p.sending = false then
      (s.setPort side n { p with pauseAsked := rest, lineOut := pauseFrame (s.pauseQuanta (fedDir side) n k) }).restartResend
        (fedDir side) n
    else s

/-- PAUSE_FRAME_SEND (R145). -/
def execPauseFrameSend (side : Side) (n : LinkId) (s : State) : Host.Outcome State Fault Refusal := .next (s.sendPause side n)

/-- PAUSE_RESEND_INTERVAL (R145): the interval of a PAUSING buffer ends, a further PAUSE frame is asked for (of a port that is UP), and
the interval runs on. That it restarts at its end, and again when the frame asked for is sent, so that several frames may be asked of a
busy transmitter, is the model's choice (log 34). -/
def State.resendPause (s : State) (d : Dir) (n : LinkId) : State :=
  let p := s.path d n
  match p.resendAt with
  | some t =>
    if p.pausing then
      ((s.withNow (max s.now t)).restartResend d n).askPause (feedSide d) n .stop
    else s
  | none => s

/-- PAUSE_RESEND_INTERVAL (R145). -/
def execPauseResendInterval (d : Dir) (n : LinkId) (s : State) : Host.Outcome State Fault Refusal := .next (s.resendPause d n)

/-! ### Transmission (R114, R115) -/

/-- The bytes a port sends for an entry (R14, R114, R115): a BYPASS frame unchanged, any other with the FCS the port computes. -/
def wireFrame (e : Entry) : Bytes :=
  match e.verdict with
  | .bypass => e.data
  | _ => withFcs e.data

/-- R114, R146: whether a port can take a head: UP, its transmit not paused, its transmitter free, and no PAUSE frame ahead of the head
(R145). -/
def Port.takes (p : Port) : Bool := p.up && p.pausedUntil.isNone && !p.sending && p.pauseAsked.isEmpty

/-- R114, R115: a DONE head is handed to its port. -/
def State.startTransmit (s : State) (d : Dir) (n : LinkId) : State :=
  let p := s.port (sendSide d) n
  match (s.path d n).queue with
  | [] => s
  | e :: _ =>
    if e.state = .done ∧ p.takes then s.setPort (sendSide d) n { p with sending := true, lineOut := wireFrame e } else s

/-- FRAME_TRANSMIT_START (R114, R115). -/
def execFrameTransmitStart (d : Dir) (n : LinkId) (s : State) : Host.Outcome State Fault Refusal := .next (s.startTransmit d n)

/-- R147: the counters of a transmitted entry. -/
def Counters.sent (c : Counters) (e : Entry) : Counters :=
  { c with
    framesOut := sat48 c.framesOut 1
    octetsOut := sat48 c.octetsOut (wireFrame e).length
    coverSent := if e.kind = .cover then sat48 c.coverSent 1 else c.coverSent }

/-- R22: the frame count of the record an entry still names. -/
def State.countFrame (s : State) (e : Entry) : State :=
  match e.assoc with
  | some a => s.setRecord a { s.record a with frames := sat48 (s.record a).frames 1 }
  | none => s

/-- R114, R115: the last byte has been sent: the entry leaves its queue, its cells are freed, the counters rise, the next head is
exposed. -/
def State.endTransmit (s : State) (d : Dir) (n : LinkId) : State :=
  let p := s.port (sendSide d) n
  match (s.path d n).queue with
  | [] => s
  | e :: rest =>
    if e.state = .done ∧ p.sending then
      let s1 := s.setPort (sendSide d) n { p with sending := false }
      let q := s1.path d n
      let s2 := s1.setPath d n { q with queue := rest, counters := q.counters.sent e }
      ((s2.countFrame e).freeCells d n e.cells).finish d n
    else s

/-- FRAME_TRANSMIT_END (R114, R115). -/
def execFrameTransmitEnd (d : Dir) (n : LinkId) (s : State) : Host.Outcome State Fault Refusal := .next (s.endTransmit d n)

/-! ### Transmit pause (R146) -/

/-- R146: the transmit pause of a port ends, and a waiting head is handed over at once. -/
def State.endPause (s : State) (side : Side) (n : LinkId) : State :=
  (s.setPort side n { s.port side n with pausedUntil := none }).startTransmit (sentDir side) n

/-- PAUSE_DEADLINE (R146). -/
def execPauseDeadline (side : Side) (n : LinkId) (s : State) : Host.Outcome State Fault Refusal :=
  .next (match (s.port side n).pausedUntil with
    | some t => (s.withNow (max s.now t)).endPause side n
    | none => s)

/-- R141, R146: a PAUSE frame with quanta `q` has been received. -/
def State.honourPause (s : State) (side : Side) (n : LinkId) (q : Nat) : State :=
  if q = 0 then (if (s.port side n).pausedUntil.isSome then s.endPause side n else s)
  else s.setPort side n { s.port side n with pausedUntil := some (s.now + q * Config.quantumTicks) }

/-! ### Arrival (R140, R141) -/

/-- R140: the length limit of a port. -/
def LinkParams.limit (p : LinkParams) : Side → Nat
  | .rack => p.rackMax
  | .campus => p.campusMax

/-- R140 check 5 and storing: cells for a frame that has passed the other checks. -/
def State.store (s : State) (d : Dir) (n : LinkId) (f : Bytes) : State :=
  let p := s.path d n
  if p.free < cellsFor f.length then
    let c := p.counters.addDiscard .noBuffer 1
    s.setPath d n { p with counters := { c with arrivalNoBuffer := sat48 c.arrivalNoBuffer 1 } }
  else
    (s.setPath d n { p with stored := p.stored ++ [f],
                            counters := { p.counters with framesIn := sat48 p.counters.framesIn 1 } }).takeCells d n (cellsFor f.length)

/-- R140: the arrival of a frame on a port that is UP; a port that is DOWN receives nothing (R138). -/
def State.arrive (s : State) (side : Side) (n : LinkId) (f : Bytes) : State :=
  let d := fedDir side
  if (s.port side n).up then
    if f.length < 64 then s.countDrop d n .runt 1
    else if (s.params n).limit side < f.length then s.countDrop d n .oversize 1
    else if fcsMatches f = false then s.countDrop d n .badFcs 1
    else if numAt f 12 2 = 0x8808 then
      if numAt f 14 2 = 0x0001 then s.honourPause side n (numAt f 16 2) else s
    else s.store d n f
  else s

/-- FRAME_ARRIVAL (R140). -/
def execFrameArrival (side : Side) (n : LinkId) (bytes : Bytes) (s : State) : Host.Outcome State Fault Refusal :=
  .next (s.arrive side n bytes)

/-! ### Port state (R138, R139) -/

/-- R138, R145: a port becomes UP with its notice; a PAUSING buffer that it feeds sends its PAUSE frame at once. -/
def State.portUp (s : State) (side : Side) (n : LinkId) : State :=
  let p := s.port side n
  let d := fedDir side
  let s1 :=
    if (s.path d n).pausing then
      (s.setPort side n { p with up := true, lineOut := pauseFrame (s.pauseQuanta d n .stop) }).restartResend d n
    else s.setPort side n { p with up := true }
  s1.notify (.portUp n side)

/-- LINK_SIGNAL_APPEARS (R138): the port becomes UP when the device is RUNNING. -/
def State.signalAppears (s : State) (side : Side) (n : LinkId) : State :=
  let p := s.port side n
  let s1 := s.setPort side n { p with signal := true }
  if s.device.state = .running ∧ p.up = false then (s1.portUp side n).pump else s1

/-- LINK_SIGNAL_APPEARS (R138). -/
def execLinkSignalAppears (side : Side) (n : LinkId) (s : State) : Host.Outcome State Fault Refusal :=
  .next (s.signalAppears side n)

/-- LINK_SIGNAL_LOST (R138, R139): the port goes DOWN; a reception is abandoned as BAD-FCS; its transmission, its transmit pause and the
PAUSE frames asked of it end; the heads that wait for it are dropped (R117). Its PORT-DOWN notice is queued before the ROLLED-OVER notice
of a VERIFIED head released in this change: the order is the model's choice (log 16). -/
def State.signalLost (s : State) (side : Side) (n : LinkId) (receiving : Bool) : State :=
  let p := s.port side n
  if p.up then
    let s1 := s.setPort side n { p with signal := false, up := false, pausedUntil := none, sending := false, pauseAsked := [] }
    let s2 := if receiving then s1.countDrop (fedDir side) n .badFcs 1 else s1
    (s2.notify (.portDown n side)).finish (sentDir side) n
  else s.setPort side n { p with signal := false }

/-- LINK_SIGNAL_LOST (R139). -/
def execLinkSignalLost (side : Side) (n : LinkId) (receiving : Bool) (s : State) : Host.Outcome State Fault Refusal :=
  .next (s.signalLost side n receiving)

end Sys2Proof.Machine
end

