-- ==== Sys2Proof/Machine/Reset.lean ====
section
/-! DEFINITION. Zeroization, the resets, start-up and the end of a programming operation (R122, R174 to R178, R180 to R183). -/

namespace Sys2Proof.Machine

/-! ### What a zeroization does (R180 steps 1 to 4) -/

/-- R122: a BUSY lane aborts and becomes IDLE; a FAILED lane stays FAILED. -/
def Lane.abort : Lane → Lane
  | .busy _ _ _ => .idle
  | l => l

/-- R122: every lane aborts, and the last-granted requester returns to ingress 3. -/
def State.abortLanes (s : State) : State := (s.withLanes (s.lanes.map Lane.abort)).withLastGrant 7

/-- R144: at a zeroization and a soft reset a buffer that was PAUSING becomes NORMAL and asks for its PAUSE 0, whatever frames stay
stored in it; one that was NORMAL stays so and asks for nothing (log 36). -/
def State.endPausing (s : State) (d : Dir) (n : LinkId) : State :=
  let p := s.path d n
  if p.pausing then (s.setPath d n { p with pausing := false, resendAt := none }).askPause (feedSide d) n .resume else s

/-- R113, R122, R142: the path when every entry of its queue has been dropped with ZEROIZED and has left: their cells are free, and each
that was not DROPPED before is counted (log 18). -/
def Path.emptied (p : Path) : Path :=
  let live (e : Entry) : Bool := !e.isDropped
  { p with
    queue := []
    free := p.free + cellsOf p.queue live
    counters := p.counters.addDiscard .zeroized (p.queue.filter live).length }

/-- R122, R144: every entry of one queue is dropped with ZEROIZED and leaves; its buffer becomes NORMAL; a transmission of its head is
stopped. -/
def State.clearQueue (s : State) (d : Dir) (n : LinkId) : State :=
  let s1 := (s.setPath d n (s.path d n).emptied).endPausing d n
  s1.setPort (sendSide d) n { s1.port (sendSide d) n with sending := false }

/-- R150, R156: a link goes to HALT: its cover timer stops and its stall flag is cleared. -/
def Link.halt (l : Link) : Link := { l with mode := .halt, cover := { l.cover with nextAt := none, stalled := false } }

/-- R122, R180 step 4: both queues of a link are cleared and the link goes to HALT. -/
def State.clearLink (s : State) (n : LinkId) : State :=
  let s1 := (s.clearQueue .egress n).clearQueue .ingress n
  s1.setLink n (s1.link n).halt

/-- R122, R180 step 4: every link. -/
def State.clearLinks (s : State) : State := (((s.clearLink 0).clearLink 1).clearLink 2).clearLink 3

/-- R41, R180 step 2: every record is emptied and every key destroyed; the generations are kept. -/
def State.emptyRecords (s : State) : State := s.withRecords (s.records.map fun r => Record.blank r.generation)

/-- R42, R51, R61, R180 step 3: an install and a purge end. -/
def BankUnit.zeroize (u : BankUnit) : BankUnit :=
  { install := none
    purge := none
    stop := .none
    lastPurge := if u.purge.isSome then .zeroized else u.lastPurge
    lastInstall := match u.install with
      | some i => some (.badState, i.index)
      | none => u.lastInstall }

/-- R180 steps 1 to 4: lanes, queues and links, then keys and records, then the bank operation unit. -/
def State.zeroizeAll (s : State) : State :=
  let s1 := s.abortLanes.clearLinks.emptyRecords
  s1.withBank s1.bank.zeroize

/-- R181: the zeroize count rises and stops at 65,535. -/
def State.countZeroize (s : State) : State :=
  s.withDevice { s.device with zeroizeCount := min 65535 (s.device.zeroizeCount + 1) }

/-- R180, R181: a whole zeroization: steps 1 to 4, the count and the notice. -/
def State.zeroizeFrom (s : State) (src : ZeroizeSource) : State :=
  let s1 := s.zeroizeAll.countZeroize
  s1.notify (.zeroized src s1.device.zeroizeCount (s.bank.install.map Install.index) s.bank.purge)

/-- R51, R61, R34, R167: the reply of the request that a zeroization by the input ends. -/
def State.answerCut (s : State) : State :=
  match s.control.exec with
  | .installing => s.answerOnce .badState Flags.none []
  | .awaitingBoundary => s.answerOnce .badState Flags.none []
  | .items _ _ done flags data => s.answer .ok { flags with clamped := true } (done % 256) data
  | .idle => s
  | .programming => s

/-- R176, R183: whether RESET is asserted: held, or asserted and waiting for programming to end. -/
def State.resetAsserted (s : State) : Bool := s.device.state == .inReset || s.device.resetWaits

/-- ZEROIZE_INPUT (R180): not acted on while RESET is asserted, one that waits for programming to end included (log 17). -/
def execZeroizeInput (s : State) : Host.Outcome State Fault Refusal :=
  .next (if s.resetAsserted then s else (s.zeroizeFrom .input).answerCut.pump)

/-! ### Soft reset (R182) -/

/-- R96: every hit count becomes 0. -/
def FlowTable.clearHits (t : FlowTable) : FlowTable :=
  { t with chains := t.chains.map fun c => c.map fun e => { e with hits := 0 } }

/-- R147, R156: every counter of a link and its cover-skipped count become 0. -/
def Link.clearCounters (l : Link) : Link :=
  { l with
    egress := { l.egress with counters := Counters.zero }
    ingress := { l.ingress with counters := Counters.zero }
    cover := { l.cover with skipped := 0 } }

/-- R171: the control unit after a soft reset, before its reply: the executing request alone is left in the queue. -/
def Control.softReset (c : Control) : Control :=
  { c with requests := c.requests.take 1, replies := [], notices := [], noticesLost := false, repliesLost := false }

/-- R182: the soft reset, before its reply. -/
def State.softResetAll (s : State) : State :=
  let s1 := s.zeroizeAll
  let s2 := (s1.withFlow s1.flow.clearHits).withLinks (s1.links.map Link.clearCounters)
  (s2.withBank { s2.bank with lastPurge := .none, lastInstall := none }).withControl s2.control.softReset

/-! ### Provisioning (R176) -/

/-- R176, R177, R178: the field that was being programmed is written. -/
def Provisioning.finish (p : Provisioning) : Provisioning :=
  match p.programming with
  | some (.kwk key) => { p with kwk := some (key, checkValue key), programming := none }
  | some (.label text) => { p with label := some text, programming := none }
  | some .lock => { p with locked := true, programming := none }
  | none => p

/-- R177, R178: the body of the reply to a programming request. -/
def Programming.reply : Programming → Bytes
  | .kwk key => checkValue key
  | .label _ => []
  | .lock => []

/-! ### Hard reset, power-on, start-up (R174, R175, R183) -/

/-- R183: a hard reset that takes effect: every volatile item at its hard-reset value, RESET held. The zeroize count, the sampled straps
until the next sampling, the provisioning area and the signals of the ports are kept. -/
def State.hardResetNow (s : State) : State :=
  { s with
    device := { s.device with state := .inReset, resetWaits := false }
    records := Vector.replicate 2048 (Record.blank 0)
    bank := BankUnit.idle
    rules := Vector.replicate 32 RangeRule.blank
    flow := FlowTable.blank
    links := s.links.map fun l => Link.blank l.rack.signal l.campus.signal
    lanes := Vector.replicate 8 Lane.failed
    lastGrant := 7
    control := Control.blank }

/-- R176, R183: RESET is asserted; it takes effect at once, or when programming has ended. -/
def State.assertReset (s : State) : State :=
  if s.prov.programming.isSome then s.withDevice { s.device with resetWaits := true } else s.hardResetNow

/-- HARD_RESET (R183). -/
def execHardReset (s : State) : Host.Outcome State Fault Refusal := .next s.assertReset

/-- R174, R175: the straps are sampled and start-up begins. -/
def State.beginStartUp (s : State) (ctrlRate wrapOnly : Bool) : State :=
  s.withDevice { s.device with state := .starting, ctrlRate := ctrlRate, wrapOnly := wrapOnly }

/-- START_UP (R175): the release of RESET. -/
def execStartUp (ctrlRate wrapOnly : Bool) (s : State) : Host.Outcome State Fault Refusal :=
  .next (if s.device.state = .inReset then s.beginStartUp ctrlRate wrapOnly else s)

/-- R183, R181: power-on: a hard reset with the zeroize count at 0, and start-up. Programming that had begun has ended (R176, log 17). -/
def State.powerOn (s : State) (ctrlRate wrapOnly : Bool) : State :=
  let s1 := (s.withProv s.prov.finish).hardResetNow
  (s1.withDevice { s1.device with zeroizeCount := 0 }).beginStartUp ctrlRate wrapOnly

/-- POWER_ON (R183). -/
def execPowerOn (ctrlRate wrapOnly : Bool) (s : State) : Host.Outcome State Fault Refusal := .next (s.powerOn ctrlRate wrapOnly)

/-- R118, R175: the lanes after the self-test. -/
def testedLanes (passed : BitVec 8) : Vector Lane 8 := Vector.ofFn fun i => if passed.getLsbD i.val then .idle else .failed

/-- R138, R175: a port whose signal is present becomes UP with its notice. -/
def State.raisePort (s : State) (side : Side) (n : LinkId) : State :=
  if (s.port side n).signal then s.portUp side n else s

/-- R138, R175: the ports become UP, rack ports first (log 16). -/
def State.raisePorts (s : State) : State :=
  let s1 := (List.finRange 4).foldl (fun s n => s.raisePort .rack n) s
  (List.finRange 4).foldl (fun s n => s.raisePort .campus n) s1

/-- R175: the self-test of a STARTING device ends: lanes, device state, the STARTED-UP notice, then the ports. -/
def State.endSelfTest (s : State) (passed : BitVec 8) (unwrapPass : Bool) : State :=
  let st : DeviceState := if passed ≠ 0 ∧ unwrapPass then .running else .failed
  let s1 := ((s.withLanes (testedLanes passed)).withDevice { s.device with state := st }).notify (.startedUp st passed unwrapPass)
  if st = .running then s1.raisePorts else s1

/-- SELF_TEST_COMPLETE (R175). -/
def execSelfTestComplete (passed : BitVec 8) (unwrapPass : Bool) (s : State) : Host.Outcome State Fault Refusal :=
  .next (if s.device.state = .starting then (s.endSelfTest passed unwrapPass).pump else s)

/-- R176, R177, R178: programming ends: the field is written, the reply composed; a RESET that waited takes effect. -/
def State.endProgramming (s : State) : State :=
  match s.prov.programming with
  | some f =>
    let s1 := s.withProv s.prov.finish
    if s.device.resetWaits then s1.hardResetNow else (s1.answerOnce .ok Flags.none f.reply).pump
  | none => s

/-- PROGRAMMING_COMPLETE (R176). -/
def execProgrammingComplete (s : State) : Host.Outcome State Fault Refusal := .next s.endProgramming

end Sys2Proof.Machine
end

