-- ==== Sys2Proof/Machine/Requests.lean ====
section
/-! DEFINITION. The execution of requests (R164, R165, R167) and the requests that concern the whole part: UNKNOWN_REQUEST, IDENTIFY,
DEVICE-STATUS, SOFT-RESET and ZEROIZE. -/

namespace Sys2Proof.Machine

/-! ### Beginning (R164, R165) -/

/-- Table 10-4: the request codes. -/
def requestCodes : List Byte :=
  [0x01, 0x02, 0x03, 0x04, 0x10, 0x11, 0x12, 0x13, 0x20, 0x21, 0x22, 0x23, 0x30, 0x31, 0x32, 0x33, 0x34, 0x35, 0x36, 0x37, 0x40, 0x41,
   0x42, 0x43, 0x44, 0x50, 0x51, 0x52]

/-- R164: whether the execution before has ended and its reply has left the reply list. -/
def Control.free (c : Control) : Bool := c.exec == .idle && c.replies.all fun r => !r.executed

/-- R164: the request at the head, when its execution can begin; while RESET is held nothing executes (R183). -/
def State.ready? (s : State) : Option Request :=
  match s.control.requests with
  | q :: _ => if s.control.free && s.device.state != .inReset then some q else none
  | [] => none

/-- R165: the general checks of a request of Table 10-4. -/
def generalCheck (dev : DeviceState) (anyState conditional : Bool) (q : Request) : Option Status :=
  if anyState = false ∧ dev ≠ .running then some .notRunning
  else if q.cond ≠ 0 ∧ conditional = false then some .notConditional
  else if 7 < q.cond.toNat then some .badField
  else none

/-- R164, R165: the request at the head, when its code is `code` and it can begin, with the result of its general checks. -/
def State.beginRequest (s : State) (code : Byte) (anyState conditional : Bool) : Option (Request × Option Status) :=
  match s.ready? with
  | some q => if q.code = code then some (q, generalCheck s.device.state anyState conditional q) else none
  | none => none

/-- R165: a reply composed by the general checks: FLAGS 0, DONE-COUNT 0, an empty body. -/
def State.refuse (s : State) (why : Status) : State := s.answer why Flags.none 0 []

/-- R164: a request that is not repeatable; `act` checks its body, acts and composes its reply. -/
def State.runOnce (s : State) (code : Byte) (anyState conditional : Bool) (act : Request → State → State) : State :=
  match s.beginRequest code anyState conditional with
  | some (_, some why) => (s.refuse why).pump
  | some (q, none) => (act q s).pump
  | none => s

/-- R165: a body length check and then `act`. -/
def State.withBody (s : State) (q : Request) (len : Nat) (act : State) : State :=
  if q.body.length = len then act else s.answerOnce .badLength Flags.none []

/-! ### Repeats (R34, R167) -/

/-- A repeatable request: its code, whether it is conditional, its last valid index, its body length, the first index in its body, the
checks of its whole body after that index, the bytes its next item would take, and one item: the state after it, its flags and its
data. -/
structure Repeatable where
  code : Byte
  conditional : Bool
  lastIndex : Nat
  bodyLength : Nat
  first : Request → Nat
  bodyCheck : Request → Option Status
  size : State → Nat → Nat
  item : Request → Nat → State → State × Flags × Bytes

/-- R167: the item at index `i` with `left` items left, `done` done, and what they have gathered: then the next item waits, or the
reply is composed. -/
def State.doItem (s : State) (k : Repeatable) (q : Request) (i left done : Nat) (flags : Flags) (data : Bytes) : State :=
  let (s1, fl, bytes) := k.item q i s
  let flags1 := flags.join fl
  let data1 := data ++ bytes
  if left ≤ 1 then s1.answer .ok flags1 ((done + 1) % 256) data1
  else if k.lastIndex ≤ i ∨ Config.replyBodyMax < data1.length + k.size s1 (i + 1) then
    s1.answer .ok { flags1 with clamped := true } ((done + 1) % 256) data1
  else s1.withControl { s1.control with exec := .items (i + 1) (left - 1) (done + 1) flags1 data1 }

/-- R167: a repeat that passes its whole-body checks does its first item. No rule orders these checks: the length, then the first index,
then the other fields of the body (the clear option of READ-COUNTERS) is the model's choice (log 12). -/
def State.beginRepeat (s : State) (k : Repeatable) (q : Request) : State :=
  if q.body.length ≠ k.bodyLength then s.refuse .badLength
  else if k.lastIndex < k.first q then s.refuse .badIndex
  else
    match k.bodyCheck q with
    | some why => s.refuse why
    | none => s.doItem k q (k.first q) (q.repeatCount.toNat + 1) 0 Flags.none []

/-- R167: one command of a repeatable request: it begins with its first item, or does its next one (log 3). -/
def State.runRepeat (s : State) (k : Repeatable) : State :=
  match s.control.exec, s.control.requests with
  | .items i left done flags data, q :: _ =>
    if q.code = k.code then (s.doItem k q i left done flags data).pump else s
  | _, _ =>
    match s.beginRequest k.code false k.conditional with
    | some (_, some why) => (s.refuse why).pump
    | some (q, none) => (s.beginRepeat k q).pump
    | none => s

/-! ### UNKNOWN_REQUEST (R165) -/

/-- UNKNOWN_REQUEST (R165): the code of the request at the head names no request. -/
def execUnknownRequest (s : State) : Host.Outcome State Fault Refusal :=
  .next (match s.ready? with
    | some q => if q.code ∈ requestCodes then s else (s.refuse .unknownRequest).pump
    | none => s)

/-! ### IDENTIFY (R172) -/

/-- R118, R172: the lane health map: bit i is set when lane i is not FAILED. -/
def laneHealth (lanes : Vector Lane 8) : Nat :=
  (List.finRange 8).foldl (fun acc i => if lanes[i] = .failed then acc else acc + 2 ^ i.val) 0

/-- Table 10-6: the data of the capability records, in increasing id from 1. -/
def capabilities (health : Nat) : List Bytes :=
  [u8 8 ++ u8 health,
   u16 2048 ++ u8 4 ++ u16 512 ++ u8 3 ++ [0],
   u16 1024 ++ u16 3072 ++ u8 8 ++ u8 32,
   u16 0 ++ u16 16 ++ u16 64 ++ u16 256,
   u16 64 ++ u16 1518 ++ u16 9216 ++ u16 1518 ++ u16 9600 ++ u16 64 ++ u16 1518,
   u16 128 ++ u16 32 ++ u16 2048 ++ u16 128 ++ u16 8 ++ u16 32]

/-- R172: the chain of records from id `id` at body offset `offset`. -/
def capabilityChain : (id offset : Nat) → List Bytes → Bytes
  | _, _, [] => []
  | id, offset, d :: rest =>
    let next := offset + 4 + d.length
    u8 id ++ u8 d.length ++ u16 (if rest.isEmpty then 0 else next) ++ d ++ capabilityChain (id + 1) next rest

/-- R172: the body of the IDENTIFY reply. -/
def State.identity (s : State) : Bytes :=
  u16 0x0D4A ++ u16 0x4410 ++ [s.prov.revision] ++ s.prov.serial ++ [0] ++ capabilityChain 1 22 (capabilities (laneHealth s.lanes))

/-- IDENTIFY (R172). -/
def execIdentify (s : State) : Host.Outcome State Fault Refusal :=
  .next (s.runOnce 0x01 true false fun q s => s.withBody q 0 (s.answerOnce .ok Flags.none s.identity))

/-! ### DEVICE-STATUS (R173) -/

/-- R173: the body of the DEVICE-STATUS reply. No rule gives a code for a strap's sampled level: that it is 0 for low and 1 for high is the
model's choice (log 22). -/
def State.deviceReport (s : State) : Bytes :=
  [s.device.state.code] ++ yesNo s.device.ctrlRate ++ yesNo s.device.wrapOnly ++ yesNo s.control.noticesLost
    ++ yesNo s.control.repliesLost
    ++ ((List.finRange 4).map fun n => upCode (s.port .rack n).up) ++ ((List.finRange 4).map fun n => upCode (s.port .campus n).up)
    ++ ((List.finRange 4).map fun n => (s.link n).mode.code)
    ++ yesNo s.bank.ready ++ yesNo s.prov.kwk.isSome ++ yesNo s.prov.label.isSome ++ yesNo s.prov.locked
    ++ u16 s.device.zeroizeCount

/-- R173: the two loss flags are cleared in the change that reports them. -/
def State.clearLost (s : State) : State := s.withControl { s.control with noticesLost := false, repliesLost := false }

/-- DEVICE-STATUS (R173). -/
def execDeviceStatus (s : State) : Host.Outcome State Fault Refusal :=
  .next (s.runOnce 0x02 true false fun q s => s.withBody q 0 (s.clearLost.answerOnce .ok Flags.none s.deviceReport))

/-! ### SOFT-RESET and ZEROIZE (R180, R182) -/

/-- SOFT-RESET (R182): its reply is the first in the emptied reply list. -/
def execSoftReset (s : State) : Host.Outcome State Fault Refusal :=
  .next (s.runOnce 0x03 false false fun q s => s.withBody q 0 (s.softResetAll.answerOnce .ok Flags.none []))

/-- R180: a zeroization by request: its reply is composed after the change and carries the count. -/
def State.zeroizeByRequest (s : State) : State :=
  let s1 := s.zeroizeFrom .request
  s1.answerOnce .ok Flags.none (u16 s1.device.zeroizeCount)

/-- ZEROIZE (R180). -/
def execZeroize (s : State) : Host.Outcome State Fault Refusal :=
  .next (s.runOnce 0x04 false false fun q s => s.withBody q 0 s.zeroizeByRequest)

end Sys2Proof.Machine
end

