-- ==== Sys2Proof/Machine/FlowRequests.lean ====
section
/-! DEFINITION. The requests on the classifier's tables: SET-RANGE-RULE (R94), ADD-FLOW (R99), REMOVE-FLOW (R100), READ-FLOW (R101). -/

namespace Sys2Proof.Machine

/-! ### SET-RANGE-RULE (R94) -/

/-- R166: the enabled byte of a range rule; a byte that is neither 0 nor 1 is a free value (log 8). -/
def enabledByte (b : Byte) : Bool := if b = 0 then false else if b = 1 then true else Config.strayEnabled b

/-- R94: the high value of a rule and whether it was clamped, from the form (0 PAIR, 1 COUNT), the low value, the second value and the
greatest value of the field; nothing when the item is refused. -/
def ruleHigh (form low second top : Nat) : Option (Nat × Bool) :=
  match form with
  | 0 => if second < low then none else some (min second top, decide (top < second))
  | 1 => if second = 0 then none else some (min (low + second - 1) top, decide (top < low + second - 1))
  | _ => none

/-- R94: the rule that a body gives, and whether its high value was clamped; nothing for BAD-FIELD. The body: index, enabled, link set,
direction set, field, sense, verdict, form, low, second value. -/
def ruleOf (b : Bytes) : Option (RangeRule × Bool) :=
  match RuleField.ofCode (numAt b 4 1), Sense.ofCode (numAt b 5 1), RuleVerdict.ofCode (numAt b 6 1) with
  | some field, some sense, some verdict =>
    if field.max < numAt b 8 2 then none
    else
      (ruleHigh (numAt b 7 1) (numAt b 8 2) (numAt b 10 2) field.max).map fun h =>
        ({ enabled := enabledByte (byteAt b 1), links := (byteAt b 2).truncate 4, dirs := (byteAt b 3).truncate 2, field := field,
           low := numAt b 8 2, high := h.1, sense := sense, verdict := verdict }, h.2)
  | _, _, _ => none

/-- Writes range rule `i`. -/
def State.setRule (s : State) (i : Fin 32) (r : RangeRule) : State := s.withRules (s.rules.set i r)

/-- R94: one item: the rule is written whole, or left unchanged with BAD-FIELD. -/
def State.setRangeRuleItem (q : Request) (i : Nat) (s : State) : State × Flags × Bytes :=
  match ruleOf q.body with
  | none => (s, Flags.none, [Status.badField.code])
  | some (r, clamped) =>
    (if h : i < 32 then s.setRule ⟨i, h⟩ r else s, { Flags.none with clamped := clamped }, [Status.ok.code])

/-- R94, R167: SET-RANGE-RULE as a repeat. -/
def setRangeRule : Repeatable :=
  { code := 0x20, conditional := false, lastIndex := 31, bodyLength := 12, first := fun q => numAt q.body 0 1,
    bodyCheck := fun _ => none, size := fun _ _ => 1, item := State.setRangeRuleItem }

/-- SET-RANGE-RULE (R94). -/
def execSetRangeRule (s : State) : Host.Outcome State Fault Refusal := .next (s.runRepeat setRangeRule)

/-! ### ADD-FLOW (R99) -/

/-- R99, R100: the key in the first 10 bytes of a body (link, VID code, address flag, address), when its fields are in their sets. -/
def flowKeyOf (b : Bytes) : Option FlowKey :=
  match toLink? (numAt b 0 1), yesNo? (numAt b 3 1) with
  | some n, some any =>
    if numAt b 1 2 ≤ 4096 then some { link := n, vid := numAt b 1 2, addr := if any then none else some (slice b 4 6) } else none
  | _, _ => none

/-- R99: the entry of a key, a verdict and the association index of the body; nothing for BAD-INDEX. -/
def flowEntryOf (k : FlowKey) (v : Verdict) (index : Nat) : Option FlowEntry :=
  match v with
  | .encrypt => (toAssoc? index).map fun a => { key := k, verdict := v, assoc := some a, hits := 0 }
  | .bypass => some { key := k, verdict := v, assoc := none, hits := 0 }
  | .discard => some { key := k, verdict := v, assoc := none, hits := 0 }

/-- R96, R99: an entry joins the end of its bucket's chain: in the head of an empty one, in an overflow entry otherwise. -/
def FlowTable.add (t : FlowTable) (e : FlowEntry) : FlowTable :=
  let c := t.chain e.key.bucket
  { t.setChain e.key.bucket (c ++ [e]) with free := if c.isEmpty then t.free else t.free - 1 }

/-- R99 checks 4 to 6 and the addition. -/
def State.addFlow (s : State) (e : FlowEntry) : State :=
  let c := s.flow.chain e.key.bucket
  if (s.flow.find e.key).isSome then s.answerOnce .duplicate Flags.none []
  else if Config.chainMax ≤ c.length then s.answerOnce .chainTooLong Flags.none []
  else if c.isEmpty = false ∧ s.flow.free = 0 then s.answerOnce .tableFull Flags.none []
  else (s.withFlow (s.flow.add e)).answerOnce .ok Flags.none (u16 e.key.bucket.val ++ u8 (c.length + 1))

/-- R99: the field checks of ADD-FLOW, then the table. -/
def State.addFlowRequest (q : Request) (s : State) : State :=
  match flowKeyOf q.body, Verdict.ofCode (numAt q.body 10 1) with
  | some k, some v =>
    match flowEntryOf k v (numAt q.body 11 2) with
    | none => s.answerOnce .badIndex Flags.none []
    | some e => s.addFlow e
  | _, _ => s.answerOnce .badField Flags.none []

/-- ADD-FLOW (R99). -/
def execAddFlow (s : State) : Host.Outcome State Fault Refusal :=
  .next (s.runOnce 0x21 false false fun q s => s.withBody q 13 (s.addFlowRequest q))

/-! ### REMOVE-FLOW (R100) -/

/-- R96, R100: the entry of a key leaves its chain; unless it was alone there, one overflow entry returns to the pool. -/
def FlowTable.remove (t : FlowTable) (k : FlowKey) : FlowTable :=
  let c := t.chain k.bucket
  { t.setChain k.bucket (c.filter fun e => e.key != k) with free := if 1 < c.length then t.free + 1 else t.free }

/-- R100: the removal and its reply. -/
def State.removeFlow (s : State) (k : FlowKey) : State :=
  match s.flow.find k with
  | none => s.answerOnce .notFound Flags.none []
  | some e => (s.withFlow (s.flow.remove k)).answerOnce .ok Flags.none ([e.verdict.code] ++ assocCode e.assoc ++ u32 e.hits)

/-- R100: the field checks of REMOVE-FLOW, then the table. -/
def State.removeFlowRequest (q : Request) (s : State) : State :=
  match flowKeyOf q.body with
  | some k => s.removeFlow k
  | none => s.answerOnce .badField Flags.none []

/-- REMOVE-FLOW (R100). -/
def execRemoveFlow (s : State) : Host.Outcome State Fault Refusal :=
  .next (s.runOnce 0x22 false false fun q s => s.withBody q 10 (s.removeFlowRequest q))

/-! ### READ-FLOW (R101) -/

/-- R166: an address that may be ANY. -/
def addressCode : Option Bytes → Bytes
  | some a => [0] ++ a
  | none => [1] ++ zeros 6

/-- R101: an entry in 24 bytes. -/
def FlowEntry.report (e : FlowEntry) : Bytes :=
  padTo 24 (u8 e.key.link.val ++ u16 e.key.vid ++ addressCode e.key.addr ++ [e.verdict.code] ++ assocCode e.assoc ++ u32 e.hits)

/-- R101: a bucket: its number and the length of its chain in 4 bytes, then its entries in chain order. -/
def bucketReport (b : Nat) (c : List FlowEntry) : Bytes := padTo 4 (u16 b ++ u8 c.length) ++ c.flatMap FlowEntry.report

/-- The chain of bucket `i`, empty for a number above 1023. -/
def State.bucketChain (s : State) (i : Nat) : List FlowEntry := if h : i < 1024 then s.flow.chain ⟨i, h⟩ else []

/-- R101: one item. -/
def State.readFlowItem (_ : Request) (i : Nat) (s : State) : State × Flags × Bytes := (s, Flags.none, bucketReport i (s.bucketChain i))

/-- R101, R167: READ-FLOW as a repeat. -/
def readFlow : Repeatable :=
  { code := 0x23, conditional := false, lastIndex := 1023, bodyLength := 2, first := fun q => numAt q.body 0 2,
    bodyCheck := fun _ => none, size := fun s i => 4 + 24 * (s.bucketChain i).length, item := State.readFlowItem }

/-- READ-FLOW (R101). -/
def execReadFlow (s : State) : Host.Outcome State Fault Refusal := .next (s.runRepeat readFlow)

end Sys2Proof.Machine
end

