-- ==== Sys2Proof/Machine/Lanes.lean ====
section
/-! DEFINITION. The lane arbiter and the cipher lanes (R118 to R121, R131). -/

namespace Sys2Proof.Machine

/-- The queue of a requester: egress 0 to 3, then ingress 0 to 3 (R119). -/
def requesterQueue (i : Fin 8) : Dir × LinkId :=
  if i.val < 4 then (.egress, ⟨i.val % 4, Nat.mod_lt _ (by decide)⟩) else (.ingress, ⟨i.val % 4, Nat.mod_lt _ (by decide)⟩)

/-- R119: a requester offers when its queue holds a WAITING entry. -/
def State.offers (s : State) (i : Fin 8) : Bool :=
  (s.path (requesterQueue i).1 (requesterQueue i).2).queue.any fun e => e.state == .waiting

/-- R119: the requesters in round-robin order, from the one after the last granted. -/
def roundRobin (last : Fin 8) : List (Fin 8) := (List.finRange 8).map fun j => last + 1 + j

/-- R119: the lowest-numbered IDLE lane. -/
def State.idleLane (s : State) : Option LaneId := (List.finRange 8).find? fun l => s.lane l == .idle

/-- R120: what a lane fetches for an entry of link `n`: the key material of its slot, the record's channel and the link's envelope
type. -/
def State.fetch (s : State) (n : LinkId) (e : Entry) : Fetched :=
  let r := e.assoc.map s.record
  let k := r.bind fun r => e.key.bind r.keyOf
  { material := (k.map Key.material).getD []
    hashKey := (k.map Key.hashKey).getD []
    salt := (k.map Key.salt).getD []
    phase := (k.map Key.phase).getD 0
    channel := (r.map Record.channel).getD 0
    envType := (s.params n).envType }

/-- R119: the oldest WAITING entry of a queue goes IN-LANE with lane `l`. -/
def grantFirst (l : LaneId) : List Entry → List Entry
  | [] => []
  | e :: rest => if e.state = .waiting then { e with state := .inLane l } :: rest else e :: grantFirst l rest

/-- R119, R120: a grant, when a lane is IDLE and a requester offers. -/
def State.grant (s : State) : State :=
  match s.idleLane, (roundRobin s.lastGrant).find? s.offers with
  | some l, some i =>
    let (d, n) := requesterQueue i
    let q := (s.path d n).queue
    match q.find? fun e => e.state == .waiting with
    | some e => (((s.setQueue d n (grantFirst l q)).setLane l (.busy d n (s.fetch n e))).withLastGrant i)
    | none => s
  | _, _ => s

/-- LANE_GRANT (R119). -/
def execLaneGrant (s : State) : Host.Outcome State Fault Refusal := .next s.grant

/-- Changes the entry that is IN-LANE with lane `l`. -/
def mapLane (l : LaneId) (f : Entry → Entry) (q : List Entry) : List Entry := q.map fun e => if e.state = .inLane l then f e else e

/-- R131: the TAG-FAIL notice of a key, once in the key's life, and the record's tag-failure count (R22). -/
def State.recordTagFail (s : State) (a : AssocId) (p : Phase) (pn : Nat) : State :=
  let r := s.record a
  let r1 := { r with tagFails := sat48 r.tagFails 1 }
  match r.keyOf p with
  | some k =>
    if k.tagFailed then s.setRecord a r1
    else
      (s.setRecord a (r1.mapKey p fun k => { k with tagFailed := true })).notify
        (.tagFail a r.link r.generation k.phase k.check pn r1.tagFails)
  | none => s.setRecord a r1

/-- R121: the entry of a lane that has finished: DONE with its envelope, VERIFIED with its plaintext, or dropped with TAG-FAIL. -/
def State.completeEntry (s : State) (l : LaneId) (d : Dir) (n : LinkId) (f : Fetched) (e : Entry) : State :=
  match d with
  | .egress => s.setQueue d n (mapLane l (fun e => { e with state := .done, data := buildEnvelope e f }) (s.path d n).queue)
  | .ingress =>
    match openEnvelope e f with
    | some data => s.setQueue d n (mapLane l (fun e => { e with state := .verified, data := data }) (s.path d n).queue)
    | none =>
      let s1 := s.dropEntries d n (fun e => e.state == .inLane l) .tagFail
      match e.assoc, e.key with
      | some a, some p => s1.recordTagFail a p (e.pn.getD 0)
      | _, _ => s1

/-- R121, R30: the in-flight count of the entry's slot falls by 1, and the Store acts on it. -/
def State.lowerCount (s : State) (e : Entry) : State :=
  match e.assoc, e.key with
  | some a, some p => (s.setRecord a ((s.record a).mapKey p Key.letGo)).storeActs a
  | _, _ => s

/-- R121: lane `l` completes its entry, discards its copy of the key and becomes IDLE. A TAG-FAIL notice is queued first, with the
generation before a rollover that this change makes, then the notices of what the Store does, then those of the heads it releases: the
order is the model's choice (log 16). -/
def State.completeLane (s : State) (l : LaneId) : State :=
  match s.lane l with
  | .busy d n f =>
    let s1 := s.setLane l .idle
    match (s1.path d n).queue.find? fun e => e.state == .inLane l with
    | some e => ((s1.completeEntry l d n f e).lowerCount e).finish d n
    | none => s1
  | _ => s

/-- LANE_COMPLETE (R121). -/
def execLaneComplete (l : LaneId) (s : State) : Host.Outcome State Fault Refusal := .next (s.completeLane l)

end Sys2Proof.Machine
end

