-- ==== Sys2Proof/Machine/LinkRequests.lean ====
section
/-! DEFINITION. The requests on links: SET-LINK-MODE (R151), SET-LINK-PARAMS (R153), READ-COUNTERS (R148) and READ-LINK (R149). -/

namespace Sys2Proof.Machine

/-! ### SET-LINK-MODE (R151, R152) -/

/-- R152: a change to another mode: entering COVER starts the cover timer, every other change leaves it stopped; the stall flag is
clear. -/
def Link.enterMode (l : Link) (now : Nat) (m : Mode) : Link :=
  { l with
    mode := m
    cover := { l.cover with
      nextAt := if m = .cover then some (now + l.params.coverInterval * Config.usTicks) else none
      stalled := false } }

/-- R151: the mode of link `n` is set; the mode it has already changes nothing. -/
def State.setMode (s : State) (n : LinkId) (m : Mode) : State :=
  if (s.link n).mode = m then s else s.setLink n ((s.link n).enterMode s.now m)

/-- R151: the checks of SET-LINK-MODE and its effect. -/
def State.setLinkMode (q : Request) (s : State) : State :=
  match toLink? (numAt q.body 0 1) with
  | none => s.answerOnce .badIndex Flags.none []
  | some n =>
    match Mode.ofCode (byteAt q.body 1) with
    | none => s.answerOnce .badField Flags.none []
    | some m => (s.setMode n m).answerOnce .ok Flags.none (u8 n.val ++ [(s.link n).mode.code, m.code])

/-- SET-LINK-MODE (R151). -/
def execSetLinkMode (s : State) : Host.Outcome State Fault Refusal :=
  .next (s.runOnce 0x10 false false fun q s => s.withBody q 2 (s.setLinkMode q))

/-! ### SET-LINK-PARAMS (R153, R154) -/

/-- R143, R144: a buffer makes its test when its XOFF or XON is another one than before, `old`. A threshold set to the value it has is not
changed (log 36). -/
def State.thresholdTest (s : State) (d : Dir) (n : LinkId) (old : BufferParams) : State :=
  let b := (s.params n).buf d
  if b.xoff = old.xoff ∧ b.xon = old.xon then s else s.pauseTest d n

/-- R143, R153: the parameters of link `n` change together, and each buffer whose thresholds change makes its test. A resend interval
that is running keeps its deadline when the quanta change, and the next one is counted by the new quanta: the model's choice (log 34). -/
def State.setParams (s : State) (n : LinkId) (p : LinkParams) : State :=
  ((s.setLink n { s.link n with params := p }).thresholdTest .egress n ((s.params n).buf .egress)).thresholdTest .ingress n
    ((s.params n).buf .ingress)

/-- R153: the parameters of a link and its cover generator's state. -/
def Link.paramsReport (l : Link) : Bytes :=
  l.params.report ++ yesNo l.cover.nextAt.isSome ++ yesNo l.cover.stalled ++ u32 l.cover.skipped

/-- R153: the checks of SET-LINK-PARAMS and its effect. -/
def State.setLinkParams (q : Request) (s : State) : State :=
  match toLink? (numAt q.body 0 1) with
  | none => s.answerOnce .badIndex Flags.none []
  | some n =>
    if linkMarkersGood q.body then
      match applyLinkParams (s.params n) q.body with
      | (p, flags) =>
        let s1 := s.setParams n p
        s1.answerOnce .ok flags (s1.link n).paramsReport
    else s.answerOnce .badField Flags.none []

/-- SET-LINK-PARAMS (R153). -/
def execSetLinkParams (s : State) : Host.Outcome State Fault Refusal :=
  .next (s.runOnce 0x11 false false fun q s => s.withBody q 55 (s.setLinkParams q))

/-! ### READ-COUNTERS (R147, R148) -/

/-- R148: the 35 counters of a direction, in the order of its list. -/
def Counters.values (c : Counters) : List Nat :=
  [c.framesIn, c.framesOut, c.octetsOut] ++ c.discards.toList
    ++ [c.clampedPadding, c.coverSent, c.coverReceived, c.coverFormed, c.arrivalNoBuffer]

/-- R148: the report of one link: a 4-byte header, the egress counters, the ingress counters. That the link number is the header's first
byte and the other three are zero is the model's choice (log 9). -/
def Link.countersReport (l : Link) (n : LinkId) : Bytes :=
  padTo 4 (u8 n.val) ++ (l.egress.counters.values ++ l.ingress.counters.values).flatMap u48

/-- R148: the counters of both directions set to 0. -/
def Link.zeroCounters (l : Link) : Link :=
  { l with egress := { l.egress with counters := Counters.zero }, ingress := { l.ingress with counters := Counters.zero } }

/-- R148: one item: the report, and with the clear option the clearing in the same change. -/
def State.readCountersItem (q : Request) (i : Nat) (s : State) : State × Flags × Bytes :=
  match toLink? i with
  | some n => (if byteAt q.body 1 = 1 then s.setLink n (s.link n).zeroCounters else s, Flags.none, (s.link n).countersReport n)
  | none => (s, Flags.none, [])

/-- R148, R167: READ-COUNTERS as a repeat. A first link above 3 is refused before a clear option above 1: the model's choice (log 12). -/
def readCounters : Repeatable :=
  { code := 0x13, conditional := false, lastIndex := 3, bodyLength := 2, first := fun q => numAt q.body 0 1,
    bodyCheck := fun q => if 1 < numAt q.body 1 1 then some .badField else none, size := fun _ _ => 424,
    item := State.readCountersItem }

/-- READ-COUNTERS (R148). -/
def execReadCounters (s : State) : Host.Outcome State Fault Refusal := .next (s.runRepeat readCounters)

/-! ### READ-LINK (R149) -/

/-- R149: a port's state and the time to the end of its transmit pause in quanta, rounded up (log 31), or not paused (log 7). -/
def Port.report (p : Port) (now : Nat) : Bytes :=
  [upCode p.up] ++ u16 (match p.pausedUntil with
    | some t => ceilDiv (t - now) Config.quantumTicks
    | none => Config.notPaused)

/-- R149: the report of one link in 48 bytes. -/
def Link.report (l : Link) (n : LinkId) (now : Nat) : Bytes :=
  padTo 48 (u8 n.val ++ [l.mode.code] ++ l.rack.report now ++ l.campus.report now
    ++ [pausingCode l.egress.pausing] ++ u16 l.egress.free ++ [pausingCode l.ingress.pausing] ++ u16 l.ingress.free
    ++ u8 l.egress.queue.length ++ u8 (heldCount l.egress.queue) ++ u8 l.ingress.queue.length ++ u8 (heldCount l.ingress.queue)
    ++ yesNo l.cover.stalled)

/-- R149: one item. -/
def State.readLinkItem (_ : Request) (i : Nat) (s : State) : State × Flags × Bytes :=
  match toLink? i with
  | some n => (s, Flags.none, (s.link n).report n s.now)
  | none => (s, Flags.none, [])

/-- R149, R167: READ-LINK as a repeat. -/
def readLink : Repeatable :=
  { code := 0x12, conditional := false, lastIndex := 3, bodyLength := 1, first := fun q => numAt q.body 0 1, bodyCheck := fun _ => none,
    size := fun _ _ => 48, item := State.readLinkItem }

/-- READ-LINK (R149). -/
def execReadLink (s : State) : Host.Outcome State Fault Refusal := .next (s.runRepeat readLink)

end Sys2Proof.Machine
end

