-- ==== Sys2Proof/Machine/ProvRequests.lean ====
section
/-! DEFINITION. The requests on the provisioning area: PROVISION-WRITE (R177), PROVISION-LOCK (R178) and PROVISION-READ (R179). -/

namespace Sys2Proof.Machine

/-- R176: programming begins; the control unit waits for its end. -/
def State.startProgramming (s : State) (f : Programming) : State :=
  (s.withProv { s.prov with programming := some f }).withControl { s.control with exec := .programming }

/-- R177: the field that a body of 66 bytes names (selector, length, data); nothing for BAD-FIELD. -/
def provisionField (b : Bytes) : Option Programming :=
  match numAt b 0 1 with
  | 0 => if numAt b 1 1 = 32 then some (.kwk (slice b 2 32)) else none
  | 1 => if 1 ≤ numAt b 1 1 ∧ numAt b 1 1 ≤ 64 then some (.label (slice b 2 (numAt b 1 1))) else none
  | _ => none

/-- R177 check 4: whether a field is written already. -/
def Provisioning.hasField (p : Provisioning) : Programming → Bool
  | .kwk _ => p.kwk.isSome
  | .label _ => p.label.isSome
  | .lock => p.locked

/-- R177: PROVISION-WRITE. -/
def State.provisionWrite (q : Request) (s : State) : State :=
  match provisionField q.body with
  | none => s.answerOnce .badField Flags.none []
  | some f =>
    if s.prov.locked then s.answerOnce .locked Flags.none []
    else if s.prov.hasField f then s.answerOnce .alreadyWritten Flags.none []
    else s.startProgramming f

/-- PROVISION-WRITE (R177). -/
def execProvisionWrite (s : State) : Host.Outcome State Fault Refusal :=
  .next (s.runOnce 0x50 false false fun q s => s.withBody q 66 (s.provisionWrite q))

/-- R178: PROVISION-LOCK. -/
def State.provisionLock (q : Request) (s : State) : State :=
  if s.prov.locked then s.answerOnce .locked Flags.none []
  else
    match s.prov.kwk with
    | none => s.answerOnce .notProvisioned Flags.none []
    | some (_, check) => if q.body = check then s.startProgramming .lock else s.answerOnce .badField Flags.none []

/-- PROVISION-LOCK (R178). -/
def execProvisionLock (s : State) : Host.Outcome State Fault Refusal :=
  .next (s.runOnce 0x51 false false fun q s => s.withBody q 3 (s.provisionLock q))

/-- R179: the factory half. -/
def Provisioning.factoryReport (p : Provisioning) : Bytes := p.serial ++ [p.revision] ++ p.digest

/-- R179: the customer half, without the KWK. -/
def Provisioning.customerReport (p : Provisioning) : Bytes :=
  yesNo p.kwk.isSome ++ (p.kwk.map Prod.snd).getD (zeros 3) ++ yesNo p.label.isSome ++ u8 (p.label.getD []).length
    ++ padTo 64 (p.label.getD []) ++ yesNo p.locked

/-- R179: PROVISION-READ. -/
def State.provisionRead (q : Request) (s : State) : State :=
  match numAt q.body 0 1 with
  | 0 => s.answerOnce .ok Flags.none s.prov.factoryReport
  | 1 => s.answerOnce .ok Flags.none s.prov.customerReport
  | _ => s.answerOnce .badField Flags.none []

/-- PROVISION-READ (R179). -/
def execProvisionRead (s : State) : Host.Outcome State Fault Refusal :=
  .next (s.runOnce 0x52 false false fun q s => s.withBody q 1 (s.provisionRead q))

end Sys2Proof.Machine
end

