-- ==== Sys2Proof/Machine/PurgeUnit.lean ====
section
/-! DEFINITION. The visits of a purge (R53 to R56). -/

namespace Sys2Proof.Machine

/-- R54: an OLD key in GRACE keeps its state; its grace timer stops. -/
def Record.stopGrace (r : Record) : Record := { r with old := r.old.map fun k => { k with graceAt := none } }

/-- R54: the record at the cursor is taken into the purge; its held entries are dropped, and if nothing of it is in flight the visit ends
in the same change (R55). -/
def State.purgeTake (s : State) (p : Purge) : State :=
  let a := bankSlot p.bank p.cursor
  let r := s.record a
  let s1 := s.dropEntries r.dir r.link (Entry.isHeldOf a) .purged
  let s2 := s1.setRecord a { r.stopGrace with state := .purging, wanted := false }
  ((s2.withBank { s2.bank with purge := some { p with visiting := true } }).storeActs a).finish r.dir r.link

/-- R53: the visit of the record at the cursor of an active purge. -/
def State.purgeVisit (s : State) : State :=
  match s.bank.purge with
  | some p =>
    if p.active = true ∧ p.visiting = false then
      let r := s.record (bankSlot p.bank p.cursor)
      if r.state = .empty ∨ r.state = .barred then (s.boundary p).pump
      else if r.params.pinned ∧ p.skipPinned then (s.boundary { p with skipped := p.skipped + 1 }).pump
      else s.purgeTake p
    else s
  | none => s

/-- PURGE_VISIT (R53). -/
def execPurgeVisit (s : State) : Host.Outcome State Fault Refusal := .next s.purgeVisit

/-- R55: the record under the cursor has drained. -/
def State.purgeRecordFinished (s : State) : State :=
  match s.bank.purge with
  | some p => (s.finishPurged).finish .ingress (s.record (bankSlot p.bank p.cursor)).link
  | none => s

/-- PURGE_RECORD_FINISHED (R55). -/
def execPurgeRecordFinished (s : State) : Host.Outcome State Fault Refusal := .next s.purgeRecordFinished

end Sys2Proof.Machine
end

