-- ==== Sys2Proof/Machine/AssocRequests.lean ====
section
/-! DEFINITION. The requests on association records: OPEN-ASSOC (R35), SET-ASSOC (R37), READ-ASSOC (R38), TEST-ASSOC (R39), RELEASE
(R40), ROLLOVER (R83) and RETIRE (R85). -/

namespace Sys2Proof.Machine

/-! ### OPEN-ASSOC (R35, R36) -/

/-- R36: the record that OPEN-ASSOC leaves: OPENED, with its generation advanced. -/
def openedRecord (old : Record) (d : Dir) (n : LinkId) (channel : Nat) (p : AssocParams) : Record :=
  { Record.blank ((old.generation + 1) % 256) with state := .opened, dir := d, link := n, channel := channel, params := p }

/-- R35 check 5: whether an index lies in the unprocessed range of a purge. -/
def BankUnit.inPurge (u : BankUnit) (a : AssocId) : Bool :=
  match u.purge with
  | some p => p.covers a
  | none => false

/-- R36: the record is opened and the reply composed. -/
def State.openRecord (s : State) (a : AssocId) (d : Dir) (n : LinkId) (channel : Nat) (b : Bytes) : State :=
  let (p, flags) := applyAssocParams d AssocParams.default b
  let r := openedRecord (s.record a) d n channel p
  (s.setRecord a r).answerOnce .ok flags (u8 r.generation)

/-- R35 checks 3 to 6, after the condition. The body: index, direction, link, channel, the parameters. -/
def State.openChecked (q : Request) (a : AssocId) (s : State) : State :=
  match dirOfCode (numAt q.body 2 1), toLink? (numAt q.body 3 1) with
  | some d, some n =>
    if 2047 < numAt q.body 4 2 ∨ (d = .ingress ∧ numAt q.body 4 2 ≠ a.val) then s.answerOnce .badField Flags.none []
    else if s.bank.inPurge a then s.answerOnce .inPurge Flags.none []
    else if (s.record a).state ≠ .empty then s.answerOnce .badState Flags.none []
    else s.openRecord a d n (numAt q.body 4 2) (q.body.drop 6)
  | _, _ => s.answerOnce .badField Flags.none []

/-- R33, R168: a conditional request that is not repeated: the test and the guarded act in one change. -/
def State.ifMeets (s : State) (q : Request) (a : AssocId) (act : State → State) : State :=
  let s1 := s.afterTest a q.cond
  if (s.record a).meets q.cond q.carg then act s1 else s1.answerOnce .condFalse Flags.none []

/-- R35: OPEN-ASSOC. -/
def State.openAssoc (q : Request) (s : State) : State :=
  match toAssoc? (numAt q.body 0 2) with
  | none => s.answerOnce .badIndex Flags.none []
  | some a => s.ifMeets q a (State.openChecked q a)

/-- OPEN-ASSOC (R35). -/
def execOpenAssoc (s : State) : Host.Outcome State Fault Refusal :=
  .next (s.runOnce 0x30 false true fun q s => s.withBody q 27 (s.openAssoc q))

/-! ### Items on records (R34, R167) -/

/-- R34: a repeat over association records whose body names the first index in its first two bytes. -/
def recordRepeat (code : Byte) (conditional : Bool) (bodyLength size : Nat)
    (item : Request → AssocId → State → State × Flags × Bytes) : Repeatable :=
  { code := code, conditional := conditional, lastIndex := 2047, bodyLength := bodyLength, first := fun q => numAt q.body 0 2,
    bodyCheck := fun _ => none, size := fun _ _ => size,
    item := fun q i s =>
      match toAssoc? i with
      | some a => item q a s
      | none => (s, Flags.none, []) }

/-- R33, R168: one item of a conditional repeat with a one-byte outcome. A false condition is the item's outcome also in a request sent with
REPEAT 0, whose STATUS is OK as R34 and R167 say of every repeatable request that is taken; that R168's 'a request that is not repeated'
means a request that is not repeatable is the model's reading (log 35). -/
def State.itemIfMeets (s : State) (q : Request) (a : AssocId) (act : State → State × Flags × Status) : State × Flags × Bytes :=
  let s1 := s.afterTest a q.cond
  if (s.record a).meets q.cond q.carg then
    match act s1 with
    | (s2, flags, st) => (s2, flags, [st.code])
  else (s1, Flags.none, [Status.condFalse.code])

/-- Whether a record is OPENED, LIVE or EXHAUSTED (R37, R85). -/
def Record.isOpen (r : Record) : Bool := r.state == .opened || r.state == .live || r.state == .exhausted

/-! ### SET-ASSOC (R37) -/

/-- R37: the parameter change of one record. -/
def State.setAssocRecord (q : Request) (a : AssocId) (s : State) : State × Flags × Status :=
  let r := s.record a
  if r.isOpen then
    match applyAssocParams r.dir r.params (q.body.drop 2) with
    | (p, flags) => (s.setRecord a { r with params := p }, flags, .ok)
  else (s, Flags.none, .badState)

/-- R37: one item of SET-ASSOC. -/
def State.setAssocItem (q : Request) (a : AssocId) (s : State) : State × Flags × Bytes := s.itemIfMeets q a (State.setAssocRecord q a)

/-- SET-ASSOC (R37). -/
def execSetAssoc (s : State) : Host.Outcome State Fault Refusal :=
  .next (s.runRepeat (recordRepeat 0x31 true 23 1 State.setAssocItem))

/-! ### READ-ASSOC (R38) -/

/-- R38: the part of the report that stands for one slot, 28 bytes. -/
def slotReport : Option Key → Bytes
  | none => zeros 28
  | some k =>
    match k.state with
    | .loading => padTo 28 ([k.state.code] ++ u8 k.phase.val)
    | _ =>
      [k.state.code] ++ u8 k.phase.val ++ k.check ++ u32 k.n ++ u48 k.u ++ yesNo k.soft ++ yesNo k.crossed ++ yesNo k.tagFailed
        ++ u16 k.inFlight ++ u16 k.window.size ++ u32 k.window.high ++ u16 k.window.marked.length

/-- R38: the time that remains to the grace deadline of a GRACE key, 0 when OLD holds no such key (its unit: log 7). Of a GRACE key whose
timer RETIRE or a purge has stopped (R54, R86) the spec states no number: a free value (log 7). -/
def graceLeft (old : Option Key) (now : Nat) : Nat :=
  match old with
  | some k =>
    if k.state = .grace then
      match k.graceAt with
      | some t => Config.graceNumber (t - now)
      | none => Config.stoppedGrace now
    else 0
  | none => 0

/-- R38: the report of one record in 128 bytes. -/
def Record.report (r : Record) (a : AssocId) (now : Nat) : Bytes :=
  padTo 128 (u16 a.val ++ [r.state.code, dirCode r.dir] ++ u8 r.link.val ++ u16 r.channel ++ u8 r.generation ++ r.params.report
    ++ yesNo r.wanted ++ u48 r.frames ++ u48 r.tagFails ++ slotReport r.cur ++ slotReport r.nxt ++ slotReport r.old
    ++ u32 (graceLeft r.old now))

/-- R38: one item of READ-ASSOC. -/
def State.readAssocItem (_ : Request) (a : AssocId) (s : State) : State × Flags × Bytes :=
  (s, Flags.none, (s.record a).report a s.now)

/-- READ-ASSOC (R38). -/
def execReadAssoc (s : State) : Host.Outcome State Fault Refusal :=
  .next (s.runRepeat (recordRepeat 0x32 false 2 128 State.readAssocItem))

/-! ### TEST-ASSOC (R39) -/

/-- R39: one item of TEST-ASSOC: outcome, state, generation, and the soft flag as it was found. -/
def State.testAssocItem (q : Request) (a : AssocId) (s : State) : State × Flags × Bytes :=
  let r := s.record a
  (s.afterTest a q.cond, Flags.none,
    [(if r.meets q.cond q.carg then Status.ok else Status.condFalse).code, r.state.code] ++ u8 r.generation ++ yesNo r.softFlag)

/-- TEST-ASSOC (R39). -/
def execTestAssoc (s : State) : Host.Outcome State Fault Refusal :=
  .next (s.runRepeat (recordRepeat 0x33 true 2 4 State.testAssocItem))

/-! ### RELEASE (R40) -/

/-- R40: a BARRED record is emptied; any other is left. -/
def State.releaseItem (_ : Request) (a : AssocId) (s : State) : State × Flags × Bytes :=
  let r := s.record a
  if r.state = .barred then ((s.setRecord a (Record.blank r.generation)).unname a, Flags.none, [Status.ok.code])
  else (s, Flags.none, [Status.badState.code])

/-- RELEASE (R40). -/
def execRelease (s : State) : Host.Outcome State Fault Refusal :=
  .next (s.runRepeat (recordRepeat 0x37 false 2 1 State.releaseItem))

/-! ### ROLLOVER (R83) -/

/-- R83: the body of the OK reply: the new generation, the phase and check value of the new CUR key. -/
def rolloverBody (r : Record) : Bytes :=
  match r.cur with
  | some k => u8 r.generation ++ u8 k.phase.val ++ k.check
  | none => u8 r.generation

/-- R83 checks 4 to 6 and the rollover. -/
def State.rolloverChecked (a : AssocId) (s : State) : State :=
  let r := s.record a
  if (r.state ≠ .live ∧ r.state ≠ .exhausted) ∨ r.dir = .ingress then s.answerOnce .badState Flags.none []
  else if slotIs r.nxt .ready = false then s.answerOnce .badState Flags.none []
  else if r.old.isSome then s.answerOnce .retiringBusy Flags.none []
  else
    let s1 := s.rollEgress a .request
    s1.answerOnce .ok Flags.none (rolloverBody (s1.record a))

/-- R83: ROLLOVER. -/
def State.rolloverRequest (q : Request) (s : State) : State :=
  match toAssoc? (numAt q.body 0 2) with
  | none => s.answerOnce .badIndex Flags.none []
  | some a => s.ifMeets q a (State.rolloverChecked a)

/-- ROLLOVER (R83). -/
def execRollover (s : State) : Host.Outcome State Fault Refusal :=
  .next (s.runOnce 0x35 false true fun q s => s.withBody q 2 (s.rolloverRequest q))

/-! ### RETIRE (R85, R86) -/

/-- R86: the record of a RETIRE: DRAINING, no rollover wanted, the grace timer stopped. -/
def Record.retired (r : Record) : Record :=
  { r with state := .draining, wanted := false, old := r.old.map fun k => { k with graceAt := none } }

/-- R85, R86: RETIRE of one record: its held entries are dropped, and it is emptied in the same change when nothing of it is in
flight (R87). -/
def State.retireRecord (a : AssocId) (s : State) : State × Flags × Status :=
  let r := s.record a
  if r.isOpen then
    ((((s.dropEntries r.dir r.link (Entry.isHeldOf a) .retired).setRecord a r.retired).storeActs a).settle r.dir r.link, Flags.none, .ok)
  else (s, Flags.none, .badState)

/-- R85: one item of RETIRE. -/
def State.retireItem (q : Request) (a : AssocId) (s : State) : State × Flags × Bytes := s.itemIfMeets q a (State.retireRecord a)

/-- RETIRE (R85). -/
def execRetire (s : State) : Host.Outcome State Fault Refusal :=
  .next (s.runRepeat (recordRepeat 0x36 true 2 1 State.retireItem))

end Sys2Proof.Machine
end

