-- ==== Sys2Proof/Machine/Install.lean ====
section
/-! DEFINITION. The end of an install (R48 to R50, R126): the unwrap, and the completion with what it lets go ahead. -/

namespace Sys2Proof.Machine

/-- Writes the target slot of an install. -/
def Record.setTarget (r : Record) (toNxt : Bool) (k : Option Key) : Record := if toNxt then { r with nxt := k } else { r with cur := k }

/-- R47: the slot of an install while its key loads: the phase and nothing else. -/
def loadingKey (p : Phase) : Key :=
  { state := .loading, phase := p, material := [], hashKey := [], salt := [], check := [], n := 0, u := 0, soft := false,
    crossed := false, tagFailed := false, inFlight := 0, window := Window.empty 0, graceAt := none }

/-- R42, R43: the current operation ends with a result; the secret it held is destroyed. -/
def State.endInstall (s : State) (i : Install) (result : Status) : State :=
  s.withBank { s.bank with install := none, lastInstall := some (result, i.index) }

/-! ### The unwrap (R48) -/

/-- R48: the integrity check failed: the slot returns to ABSENT, the install ends, the reply is UNWRAP-FAILED. -/
def State.failInstall (s : State) (i : Install) : State :=
  ((s.setRecord i.index ((s.record i.index).setTarget i.toNxt none)).endInstall i .unwrapFailed).answerOnce .unwrapFailed Flags.none []

/-- R48: the unwrap of the secret in the unit ends: expansion follows, or the install fails. -/
def State.unwrapEnds (s : State) : State :=
  match s.bank.install with
  | some i =>
    match i.stage with
    | .unwrapping integrity sealed =>
      match unwrap ((s.prov.kwk.map Prod.fst).getD []) integrity sealed i.index.val i.phase.val with
      | some (key, salt) => s.withBank { s.bank with install := some { i with stage := .expanding key salt } }
      | none => (s.failInstall i).pump
    | .expanding _ _ => s
  | none => s

/-- UNWRAP_DONE (R48). -/
def execUnwrapDone (s : State) : Host.Outcome State Fault Refusal := .next s.unwrapEnds

/-! ### The completion (R49, R50) -/

/-- R49, R50: the finished key in its slot: IN-USE in CUR, READY in NXT; on ingress with an empty window of the record's W. -/
def installedKey (r : Record) (i : Install) (key salt : Bytes) : Key :=
  { state := if i.toNxt then .ready else .inUse
    phase := i.phase
    material := key
    hashKey := hashKeyOf key
    salt := salt
    check := checkValue key
    n := 1
    u := 0
    soft := false
    crossed := false
    tagFailed := false
    inFlight := 0
    window := Window.empty (if r.dir = .ingress then r.params.windowSize else 0)
    graceAt := none }

/-- R126: why a held envelope of record `a` cannot be entered under the new NXT key `k`. -/
def heldFails (a : AssocId) (k : Key) (e : Entry) : Option Reason :=
  if e.isHeldOf a then (if e.phase = k.phase then k.window.test (e.pn.getD 0) else some .unknownPhase) else none

/-- R126: a held envelope of record `a` is entered under the new NXT key. -/
def enterHeld (a : AssocId) (p : Phase) (e : Entry) : Entry :=
  if e.isHeldOf a then { e with state := .waiting, key := some p } else e

/-- R126: the hold of an ingress record whose new NXT key is `k`: the entries that fail are dropped in place under their reasons, the
others become WAITING under it and are counted in flight. -/
def State.releaseIngressHold (s : State) (a : AssocId) (k : Key) : State :=
  let n := (s.record a).link
  let fails (why : Reason) (e : Entry) : Bool := heldFails a k e == some why
  let s1 := s.dropEntries .ingress n (fails .unknownPhase) .unknownPhase
  let s2 := s1.dropEntries .ingress n (fails .badPn) .badPn
  let s3 := s2.dropEntries .ingress n (fails .late) .late
  let s4 := s3.dropEntries .ingress n (fails .duplicate) .duplicate
  let q := (s4.path .ingress n).queue
  let count := (q.filter (Entry.isHeldOf a)).length
  (s4.setQueue .ingress n (q.map (enterHeld a k.phase))).setRecord a
    ((s4.record a).mapKey k.phase fun k => { k with inFlight := k.inFlight + count })

/-- R50: the completion of install `i` with its key and salt, and in the same change what R73 and R126 let go ahead. -/
def State.completeInstall (s : State) (i : Install) (key salt : Bytes) : State :=
  let r := s.record i.index
  let k := installedKey r i key salt
  let r1 := r.setTarget i.toNxt (some k)
  let s1 := (s.setRecord i.index (if i.toNxt then r1 else { r1 with state := .live })).endInstall i .ok
  let s2 := if i.toNxt ∧ r.dir = .ingress then s1.releaseIngressHold i.index k else s1
  let s3 := if i.toNxt then s2.deferredRollover i.index else s2
  (s3.answerOnce .ok Flags.none (u16 i.index.val ++ u8 (if i.toNxt then 1 else 0) ++ u8 i.phase.val ++ k.check)).finish r.dir r.link

/-- R50: expansion ends. -/
def State.expansionEnds (s : State) : State :=
  match s.bank.install with
  | some i =>
    match i.stage with
    | .expanding key salt => s.completeInstall i key salt
    | .unwrapping _ _ => s
  | none => s

/-- INSTALL_COMPLETE (R50). -/
def execInstallComplete (s : State) : Host.Outcome State Fault Refusal := .next s.expansionEnds

end Sys2Proof.Machine
end

