-- ==== Sys2Proof/Machine/StoreRequests.lean ====
section
/-! DEFINITION. The requests on the bank operation unit: INSTALL-KEY (R45 to R47), PURGE (R52), PURGE-SUSPEND (R57), PURGE-RESUME (R58),
PURGE-CANCEL (R59) and STORE-STATUS (R44). -/

namespace Sys2Proof.Machine

/-! ### INSTALL-KEY (R45 to R47) -/

/-- The fields of an INSTALL-KEY request (section 3.2). -/
structure InstallFields where
  index : AssocId
  toNxt : Bool
  phase : Phase
  clear : Bool
  secret : Bytes
  deriving DecidableEq, Repr

/-- R45 check 1: whether the body has the length of its form. -/
def installLengthGood (b : Bytes) : Bool :=
  match numAt b 4 1 with
  | 0 => b.length == 54
  | 1 => b.length == 46
  | _ => b.length == 54 || b.length == 46

/-- R45: the request's own contents, or the status that refuses them. -/
def installFields (b : Bytes) : Except Status InstallFields :=
  if installLengthGood b = false then .error .badLength
  else
    match toAssoc? (numAt b 0 2) with
    | none => .error .badIndex
    | some a =>
      match yesNo? (numAt b 2 1), toLink? (numAt b 3 1), yesNo? (numAt b 4 1) with
      | some toNxt, some phase, some clear =>
        .ok { index := a, toNxt := toNxt, phase := phase, clear := clear, secret := b.drop 6 }
      | _, _, _ => .error .badField

/-- R46 check 4: whether the record cannot take a key in the target slot. -/
def Record.refusesInstall (r : Record) (toNxt : Bool) : Bool :=
  if toNxt then !(r.state == .live || r.state == .exhausted) || r.nxt.isSome else r.state != .opened

/-- Whether a slot holds a key of phase `p`. -/
def slotHasPhase (k : Option Key) (p : Phase) : Bool := (k.map Key.phase) == some p

/-- R46 checks 2 to 7. -/
def State.installCheck (s : State) (f : InstallFields) : Option Status :=
  let r := s.record f.index
  if (s.bank.purge.any Purge.active) ∨ s.bank.install.isSome then some .storeBusy
  else if s.bank.inPurge f.index then some .inPurge
  else if r.refusesInstall f.toNxt then some .badState
  else if slotHasPhase r.cur f.phase ∨ slotHasPhase r.old f.phase then some .phaseInUse
  else if f.clear ∧ (s.device.wrapOnly ∨ s.prov.locked) then some .clearRefused
  else if f.clear = false ∧ s.prov.kwk.isNone then some .notProvisioned
  else none

/-- R48, R49: where a secret begins: a wrapped one with its unwrap, a clear one with its expansion. -/
def InstallFields.stage (f : InstallFields) : InstallStage :=
  if f.clear then .expanding (slice f.secret 0 32) (slice f.secret 32 8) else .unwrapping (slice f.secret 0 8) (slice f.secret 8 40)

/-- R47: the install is taken; the control unit waits for its end. -/
def State.takeInstall (s : State) (f : InstallFields) : State :=
  let s1 := s.setRecord f.index ((s.record f.index).setTarget f.toNxt (some (loadingKey f.phase)))
  (s1.withBank { s1.bank with install := some { index := f.index, toNxt := f.toNxt, phase := f.phase, stage := f.stage } }).withControl
    { s1.control with exec := .installing }

/-- R46: the checks after the condition, and the taking. -/
def State.installChecked (f : InstallFields) (s : State) : State :=
  match s.installCheck f with
  | some why => s.answerOnce why Flags.none []
  | none => s.takeInstall f

/-- R45, R46: INSTALL-KEY. -/
def State.installRequest (q : Request) (s : State) : State :=
  match installFields q.body with
  | .error why => s.answerOnce why Flags.none []
  | .ok f => s.ifMeets q f.index (State.installChecked f)

/-- INSTALL-KEY (R46). -/
def execInstallKey (s : State) : Host.Outcome State Fault Refusal :=
  .next (s.runOnce 0x34 false true State.installRequest)

/-! ### PURGE (R52) -/

/-- R52: the purge record of a request that passes, and whether its count was clamped; nothing for BAD-FIELD. The body: bank, first
slot, count, skip-pinned, after-state. -/
def purgeOf (b : Bytes) : Option (Purge × Bool) :=
  match toLink? (numAt b 0 1), yesNo? (numAt b 5 1), yesNo? (numAt b 6 1) with
  | some bank, some skip, some barred =>
    let first := numAt b 1 2
    let count := numAt b 3 2
    if 511 < first ∨ count = 0 then none
    else
      some ({ bank := bank, first := first, last := min 511 (first + count - 1), skipPinned := skip, barred := barred, active := true,
              cursor := first, purged := 0, skipped := 0, visiting := false }, decide (511 < first + count - 1))
  | _, _, _ => none

/-- R52: PURGE. -/
def State.purgeRequest (q : Request) (s : State) : State :=
  match purgeOf q.body with
  | none => s.answerOnce .badField Flags.none []
  | some (p, clamped) =>
    if s.bank.purge.isSome ∨ s.bank.install.isSome then s.answerOnce .storeBusy Flags.none []
    else
      (s.withBank { s.bank with purge := some p, stop := .none }).answerOnce .started { Flags.none with clamped := clamped } []

/-- PURGE (R52). -/
def execPurge (s : State) : Host.Outcome State Fault Refusal :=
  .next (s.runOnce 0x40 false false fun q s => s.withBody q 7 (s.purgeRequest q))

/-! ### PURGE-SUSPEND, PURGE-RESUME, PURGE-CANCEL (R57 to R59) -/

/-- R57, R59: a stop waits for the record boundary, and the control unit with it; a pending CANCEL stays. -/
def State.awaitBoundary (s : State) (stop : Stop) : State :=
  (s.withBank { s.bank with stop := if s.bank.stop = .cancel then .cancel else stop }).withControl
    { s.control with exec := .awaitingBoundary }

/-- R57: PURGE-SUSPEND; at once unless a record is being drained. That this holds too before the first visit of the purge, when no record
boundary has been reached, is the model's choice (log 13). -/
def State.suspendPurge (s : State) : State :=
  match s.bank.purge with
  | some p =>
    if p.active = false then s.answerOnce .badState Flags.none []
    else if p.visiting then s.awaitBoundary .suspend
    else (s.withBank { s.bank with purge := some { p with active := false } }).answerOnce .ok Flags.none []
  | none => s.answerOnce .badState Flags.none []

/-- PURGE-SUSPEND (R57). -/
def execPurgeSuspend (s : State) : Host.Outcome State Fault Refusal :=
  .next (s.runOnce 0x41 false false fun q s => s.withBody q 0 s.suspendPurge)

/-- R58: PURGE-RESUME. -/
def State.resumePurge (s : State) : State :=
  match s.bank.purge with
  | some p =>
    if p.active then s.answerOnce .badState Flags.none []
    else if s.bank.install.isSome then s.answerOnce .storeBusy Flags.none []
    else (s.withBank { s.bank with purge := some { p with active := true } }).answerOnce .ok Flags.none []
  | none => s.answerOnce .badState Flags.none []

/-- PURGE-RESUME (R58). -/
def execPurgeResume (s : State) : Host.Outcome State Fault Refusal :=
  .next (s.runOnce 0x42 false false fun q s => s.withBody q 0 s.resumePurge)

/-- R59: PURGE-CANCEL; at once unless a record is being drained, before the first visit of the purge too (log 13). -/
def State.cancelPurge (s : State) : State :=
  match s.bank.purge with
  | some p =>
    if p.visiting then s.awaitBoundary .cancel else (s.endPurge p true).answerOnce .ok Flags.none []
  | none => s.answerOnce .badState Flags.none []

/-- PURGE-CANCEL (R59). -/
def execPurgeCancel (s : State) : Host.Outcome State Fault Refusal :=
  .next (s.runOnce 0x43 false false fun q s => s.withBody q 0 s.cancelPurge)

/-! ### STORE-STATUS (R44) -/

/-- The bank states in the order of section 3.1 (R166). -/
def BankState.code : BankState → Byte
  | .serving => 0
  | .installing => 1
  | .purging => 2
  | .purgeSuspended => 3

/-- R44: the purge state, 0 NONE, 1 ACTIVE, 2 SUSPENDED, and the fields of a purge that exists (absent otherwise, log 23). -/
def purgeReport : Option Purge → Bytes
  | none => [0]
  | some p =>
    [if p.active then 1 else 2] ++ u8 p.bank.val ++ u16 p.first ++ u16 p.last ++ yesNo p.skipPinned ++ [afterCode p.barred]
      ++ u16 p.cursor ++ u16 p.purged ++ u16 p.skipped

/-- R44: the report of the bank operation unit; the codes of none are free values (log 7). -/
def BankUnit.report (u : BankUnit) : Bytes :=
  yesNo u.ready
    ++ [match u.operating with
        | some b => BitVec.ofNat 8 b.val
        | none => Config.noBank]
    ++ ((List.finRange 4).map fun b => (u.stateOf b).code) ++ purgeReport u.purge ++ [u.lastPurge.code]
    ++ (match u.lastInstall with
        | some (st, a) => [st.code] ++ u16 a.val
        | none => [Config.noInstall] ++ u16 0xFFFF)

/-- STORE-STATUS (R44). -/
def execStoreStatus (s : State) : Host.Outcome State Fault Refusal :=
  .next (s.runOnce 0x44 false false fun q s => s.withBody q 0 (s.answerOnce .ok Flags.none s.bank.report))

end Sys2Proof.Machine
end

