-- ==== Sys2Proof/Machine/Dispatch.lean ====
section
/-! DEFINITION. Each command to its meaning: what it does to everything but the queue of commands. -/

namespace Sys2Proof.Machine

/-- The effect of a command. -/
def exec (i : Instr) (s : State) : Host.Outcome State Fault Refusal :=
  match i with
  | .powerOn ctrlRate wrapOnly => Sys2Proof.Machine.execPowerOn ctrlRate wrapOnly s
  | .hardReset => Sys2Proof.Machine.execHardReset s
  | .startUp ctrlRate wrapOnly => Sys2Proof.Machine.execStartUp ctrlRate wrapOnly s
  | .selfTestComplete passed unwrap => Sys2Proof.Machine.execSelfTestComplete passed unwrap s
  | .linkSignalAppears side n => Sys2Proof.Machine.execLinkSignalAppears side n s
  | .linkSignalLost side n receiving => Sys2Proof.Machine.execLinkSignalLost side n receiving s
  | .frameArrival side n bytes => Sys2Proof.Machine.execFrameArrival side n bytes s
  | .pauseDeadline side n => Sys2Proof.Machine.execPauseDeadline side n s
  | .pauseResendInterval d n => Sys2Proof.Machine.execPauseResendInterval d n s
  | .pauseFrameSend side n => Sys2Proof.Machine.execPauseFrameSend side n s
  | .egressClassification n => Sys2Proof.Machine.execEgressClassification n s
  | .ingressClassification n => Sys2Proof.Machine.execIngressClassification n s
  | .laneGrant => Sys2Proof.Machine.execLaneGrant s
  | .laneComplete l => Sys2Proof.Machine.execLaneComplete l s
  | .headRelease n => Sys2Proof.Machine.execHeadRelease n s
  | .frameTransmitStart d n => Sys2Proof.Machine.execFrameTransmitStart d n s
  | .frameTransmitEnd d n => Sys2Proof.Machine.execFrameTransmitEnd d n s
  | .holdDeadline a => Sys2Proof.Machine.execHoldDeadline a s
  | .ingressHoldDeadline a => Sys2Proof.Machine.execIngressHoldDeadline a s
  | .graceExpiry a => Sys2Proof.Machine.execGraceExpiry a s
  | .retiringKeyDestroyed a => Sys2Proof.Machine.execRetiringKeyDestroyed a s
  | .deferredRollover a => Sys2Proof.Machine.execDeferredRollover a s
  | .deferredIngressRollover a => Sys2Proof.Machine.execDeferredIngressRollover a s
  | .drainEnd a => Sys2Proof.Machine.execDrainEnd a s
  | .unwrapDone => Sys2Proof.Machine.execUnwrapDone s
  | .installComplete => Sys2Proof.Machine.execInstallComplete s
  | .purgeVisit => Sys2Proof.Machine.execPurgeVisit s
  | .purgeRecordFinished => Sys2Proof.Machine.execPurgeRecordFinished s
  | .coverTimerExpiry n => Sys2Proof.Machine.execCoverTimerExpiry n s
  | .zeroizeInput => Sys2Proof.Machine.execZeroizeInput s
  | .programmingComplete => Sys2Proof.Machine.execProgrammingComplete s
  | .hostFrameReceived bytes => Sys2Proof.Machine.execHostFrameReceived bytes s
  | .interByteTimeout bytes => Sys2Proof.Machine.execInterByteTimeout bytes s
  | .controlFrameSent => Sys2Proof.Machine.execControlFrameSent s
  | .unknownRequest => Sys2Proof.Machine.execUnknownRequest s
  | .identify => Sys2Proof.Machine.execIdentify s
  | .deviceStatus => Sys2Proof.Machine.execDeviceStatus s
  | .softReset => Sys2Proof.Machine.execSoftReset s
  | .zeroize => Sys2Proof.Machine.execZeroize s
  | .setLinkMode => Sys2Proof.Machine.execSetLinkMode s
  | .setLinkParams => Sys2Proof.Machine.execSetLinkParams s
  | .readLink => Sys2Proof.Machine.execReadLink s
  | .readCounters => Sys2Proof.Machine.execReadCounters s
  | .setRangeRule => Sys2Proof.Machine.execSetRangeRule s
  | .addFlow => Sys2Proof.Machine.execAddFlow s
  | .removeFlow => Sys2Proof.Machine.execRemoveFlow s
  | .readFlow => Sys2Proof.Machine.execReadFlow s
  | .openAssoc => Sys2Proof.Machine.execOpenAssoc s
  | .setAssoc => Sys2Proof.Machine.execSetAssoc s
  | .readAssoc => Sys2Proof.Machine.execReadAssoc s
  | .testAssoc => Sys2Proof.Machine.execTestAssoc s
  | .installKey => Sys2Proof.Machine.execInstallKey s
  | .rollover => Sys2Proof.Machine.execRollover s
  | .retire => Sys2Proof.Machine.execRetire s
  | .release => Sys2Proof.Machine.execRelease s
  | .purge => Sys2Proof.Machine.execPurge s
  | .purgeSuspend => Sys2Proof.Machine.execPurgeSuspend s
  | .purgeResume => Sys2Proof.Machine.execPurgeResume s
  | .purgeCancel => Sys2Proof.Machine.execPurgeCancel s
  | .storeStatus => Sys2Proof.Machine.execStoreStatus s
  | .provisionWrite => Sys2Proof.Machine.execProvisionWrite s
  | .provisionLock => Sys2Proof.Machine.execProvisionLock s
  | .provisionRead => Sys2Proof.Machine.execProvisionRead s
  | .frameLengthOutOfRange bytes => Sys2Proof.Machine.execFrameLengthOutOfRange bytes s
  | .framingError bytes => Sys2Proof.Machine.execFramingError bytes s

end Sys2Proof.Machine
end

