-- ==== Sys2Proof/Safety.lean ====
section
/-! DEFINITION. What holds of every state the part can be in, and the other notions in which claims about the part are stated. -/

namespace Sys2Proof.Machine

/-! ### Buffers and order queues (R108, R142) -/

/-- The cells of a buffer that belong to frames: those stored and not yet classified, and those of its order-queue entries. -/
def Path.cellsHeld (p : Path) : Nat := (p.stored.map fun f => cellsFor f.length).sum + (p.queue.map Entry.cells).sum

/-- R108, R113, R142: every cell of a buffer is free or belongs to one frame, a DROPPED entry holds none, and the order queue keeps its
bounds of 128 entries and 32 HELD ones. -/
abbrev Path.sound (p : Path) : Prop :=
  p.free + p.cellsHeld = Config.bufferCells ∧ (∀ e ∈ p.queue, e.isDropped = true → e.cells = 0)
    ∧ p.queue.length ≤ Config.queuePlaces ∧ heldCount p.queue ≤ Config.heldPlaces

/-- Every buffer and order queue is sound. -/
def State.buffersSound (s : State) : Prop := ∀ d n, (s.path d n).sound

/-! ### The control unit (R163, R164, R170) -/

/-- How many replies of executed requests wait in the reply list. -/
def Control.executed (c : Control) : Nat := (c.replies.filter fun r => r.executed).length

/-- R163, R164, R170: the bounds of the three lists; what is being executed is at the head of the queue with no executed reply waiting;
and an install, a pending stop or a programming operation is the work of the request under execution. -/
abbrev State.controlSound (s : State) : Prop :=
  s.control.requests.length ≤ Config.requestPlaces ∧ s.control.notices.length ≤ Config.noticePlaces
    ∧ s.control.refusals ≤ Config.refusalPlaces ∧ s.control.executed ≤ 1
    ∧ (s.control.exec ≠ .idle → s.control.executed = 0 ∧ s.control.requests ≠ [])
    ∧ (s.bank.install.isSome → s.control.exec = .installing)
    ∧ (s.bank.stop ≠ .none → s.control.exec = .awaitingBoundary)
    ∧ (s.prov.programming.isSome → s.control.exec = .programming)

/-! ### Parameters (Tables 2-2 and 9-1) -/

/-- R143: the ranges of a buffer's parameters. -/
abbrev BufferParams.inRange (b : BufferParams) : Prop :=
  1 ≤ b.xoff ∧ b.xoff ≤ 2047 ∧ b.xoff + 1 ≤ b.xon ∧ b.xon ≤ 2048 ∧ 1 ≤ b.quanta ∧ b.quanta ≤ 0xFFFF

/-- Table 9-1: the ranges of a link's parameters. -/
abbrev LinkParams.inRange (p : LinkParams) : Prop :=
  0x0600 ≤ p.envType ∧ p.envType ≤ 0xFFFF ∧ p.envType ≠ 0x8100 ∧ 1518 ≤ p.rackMax ∧ p.rackMax ≤ 9216 ∧ 1518 ≤ p.campusMax
    ∧ p.campusMax ≤ 9600 ∧ 10 ≤ p.holdTimeout ∧ p.holdTimeout ≤ 10000 ∧ 1 ≤ p.graceInterval ∧ p.graceInterval ≤ 1000
    ∧ p.egressBuf.inRange ∧ p.ingressBuf.inRange ∧ 1 ≤ p.coverInterval ∧ p.coverInterval ≤ 65535 ∧ 64 ≤ p.coverLen
    ∧ p.coverLen ≤ 1518 ∧ p.coverCode ≤ 0xFFFF

/-- Table 2-2: the ranges of a record's parameters. -/
abbrev AssocParams.inRange (p : AssocParams) : Prop :=
  (p.quantum = 0 ∨ p.quantum = 16 ∨ p.quantum = 64 ∨ p.quantum = 256) ∧ 1 ≤ p.softPn ∧ p.softPn ≤ 0xFFFFFFFF ∧ 20 ≤ p.capExp
    ∧ p.capExp ≤ 40 ∧ p.windowSize ≤ 1024

/-- Every parameter of every link and record is in its range. -/
def State.paramsInRange (s : State) : Prop := (∀ n, (s.params n).inRange) ∧ ∀ a, (s.record a).params.inRange

/-! ### Resets (R183) -/

/-- R42, R95, R96, R107, R118, R119, R138, R142, R150, R153, R171, R183: what a hard reset leaves in everything but the device, the
provisioning area, the clock and the queue of commands. Only the signals of the ports are kept. -/
abbrev State.hardResetTo (s t : State) : Prop :=
  (∀ a, t.record a = Record.blank 0) ∧ t.bank = BankUnit.idle ∧ t.rules = Vector.replicate 32 RangeRule.blank
    ∧ t.flow = FlowTable.blank ∧ (∀ n, t.link n = Link.blank (s.link n).rack.signal (s.link n).campus.signal)
    ∧ (∀ l, t.lane l = .failed) ∧ t.lastGrant = 7 ∧ t.control = Control.blank

/-! ### Frames of the machine -/

/-- Two states that agree in everything outside the links. -/
abbrev State.sameCore (s t : State) : Prop :=
  t.records = s.records ∧ t.bank = s.bank ∧ t.rules = s.rules ∧ t.flow = s.flow ∧ t.lanes = s.lanes ∧ t.lastGrant = s.lastGrant
    ∧ t.device = s.device ∧ t.prov = s.prov ∧ t.control = s.control ∧ t.now = s.now ∧ t.pending = s.pending

/-! ### The flow table (R96) -/

/-- R96, R97: every entry stands in the chain of its key's bucket, no key stands twice in a chain, and a chain has at most 8 entries. -/
abbrev FlowTable.sound (t : FlowTable) : Prop :=
  ∀ b : Fin 1024, (t.chain b).length ≤ Config.chainMax ∧ ((t.chain b).map FlowEntry.key).Nodup
    ∧ ∀ e ∈ t.chain b, e.key.bucket = b

/-! ### Zeroization (R41, R122, R144, R180) -/

/-- R122, R138, R142, R144, R146, R180: what a zeroization and a soft reset leave of the buffers and the ports. Every queue is empty and
the cells of its entries are free, every buffer is NORMAL, and a frame in transmission has been stopped; stored frames, signals, port
states, transmit pauses and what a port last began to send are kept. A buffer that was PAUSING asks its feeding port, if that is UP, for a
PAUSE 0, and one that was NORMAL asks for nothing (log 36). An entry that was DROPPED before holds no cells (log 18). -/
abbrev State.trafficCleared (s t : State) : Prop :=
  (∀ d n, (t.path d n).queue = [] ∧ (t.path d n).stored = (s.path d n).stored
      ∧ (t.path d n).free = (s.path d n).free + cellsOf (s.path d n).queue (fun e => !e.isDropped)
      ∧ (t.path d n).pausing = false
      ∧ (t.path d n).resendAt = if (s.path d n).pausing then none else (s.path d n).resendAt)
  ∧ ∀ side n, (t.port side n).signal = (s.port side n).signal ∧ (t.port side n).up = (s.port side n).up
      ∧ (t.port side n).pausedUntil = (s.port side n).pausedUntil ∧ (t.port side n).sending = false
      ∧ (t.port side n).lineOut = (s.port side n).lineOut
      ∧ (t.port side n).pauseAsked = (s.port side n).pauseAsked
          ++ if (s.path (fedDir side) n).pausing && (s.port side n).up then [.resume] else []

/-- R41, R96, R122, R180: what a zeroization leaves in everything but the device, the last results of the bank operation unit and the
control unit: every record blank with its generation kept, no install, purge or stop, the lanes aborted and the last grant at ingress 3,
every queue empty with its entries counted as ZEROIZED (those not DROPPED before: log 18), every link in HALT with its cover timer stopped
and its stall flag clear; rules, flow table, parameters, stored frames, port states, the provisioning area and the clock are kept. -/
abbrev State.zeroizedTo (s t : State) : Prop :=
  (∀ a, t.record a = Record.blank (s.record a).generation)
    ∧ t.bank.install = none ∧ t.bank.purge = none ∧ t.bank.stop = .none
    ∧ (∀ l, t.lane l = (s.lane l).abort) ∧ t.lastGrant = 7
    ∧ s.trafficCleared t
    ∧ (∀ d n, (t.path d n).counters
        = (s.path d n).counters.addDiscard .zeroized ((s.path d n).queue.filter fun e => !e.isDropped).length)
    ∧ (∀ n, (t.link n).mode = .halt ∧ (t.link n).cover = { nextAt := none, stalled := false, skipped := (s.link n).cover.skipped }
        ∧ (t.link n).params = (s.link n).params)
    ∧ t.rules = s.rules ∧ t.flow = s.flow ∧ t.prov = s.prov ∧ t.now = s.now ∧ t.pending = s.pending

/-! ### Keys and installs (R26, R43, R47) -/

/-- The phases of the keys a record holds. -/
def Record.phases (r : Record) : List Phase := ([r.cur, r.nxt, r.old].filterMap id).map Key.phase

/-- The slot an install loads. -/
def State.installSlot (s : State) (i : Install) : Option Key :=
  if i.toNxt then (s.record i.index).nxt else (s.record i.index).cur

/-- R26, Table 2-1: the phases of a record's keys are pairwise distinct, an OPENED record stages and retires nothing, and an EMPTY or
BARRED record holds no key. -/
abbrev Record.keysSound (r : Record) : Prop :=
  r.phases.Nodup ∧ (r.state = .opened → r.nxt = none ∧ r.old = none)
    ∧ (r.state = .empty ∨ r.state = .barred → r.cur = none ∧ r.nxt = none ∧ r.old = none)

/-- R43, R46, R47: an install in progress holds the control unit, no purge is ACTIVE beside it, and its slot is LOADING with its phase
in a record of the state it was taken in. -/
abbrev State.installSound (s : State) (i : Install) : Prop :=
  s.control.exec = .installing ∧ s.bank.purge.any Purge.active = false
    ∧ (s.installSlot i).map (fun k => (k.state, k.phase)) = some (.loading, i.phase)
    ∧ (if i.toNxt then (s.record i.index).state = .live ∨ (s.record i.index).state = .exhausted
        else (s.record i.index).state = .opened)

/-- R26, R43, R47 of the whole Store. -/
def State.storeSound (s : State) : Prop := (∀ a, (s.record a).keysSound) ∧ ∀ i, s.bank.install = some i → s.installSound i

/-! ### In-flight counts (R30, R31) -/

/-- R30: whether an entry is counted for the key of record `a` with phase `p`: it refers to that key and is WAITING or IN-LANE. -/
def Entry.countsFor (a : AssocId) (p : Phase) (e : Entry) : Bool :=
  e.assoc == some a && e.key == some p && match e.state with
    | .waiting => true
    | .inLane _ => true
    | _ => false

/-- R30: how many entries of all order queues are counted for the key of record `a` with phase `p`. -/
def State.countFor (s : State) (a : AssocId) (p : Phase) : Nat :=
  ((List.finRange 4).map fun n => (s.path .egress n).queue.countP (Entry.countsFor a p)
    + (s.path .ingress n).queue.countP (Entry.countsFor a p)).sum

/-- R119 to R121: a BUSY lane has exactly one entry, in the queue it knows, no other lane has any, and every lane is out of service from a
reset to the end of the self-test. -/
abbrev State.lanesExact (s : State) : Prop :=
  (∀ l d n, (s.path d n).queue.countP (fun e => e.state == .inLane l)
      = match s.lane l with
        | .busy d' n' _ => if d = d' ∧ n = n' then 1 else 0
        | _ => 0)
    ∧ (s.device.state = .starting ∨ s.device.state = .inReset → ∀ l, s.lane l = .failed)

/-- R28, R47: a key that is LOADING has nothing in flight, and the CUR key of an OPENED record is LOADING. -/
abbrev Record.loadingSound (r : Record) : Prop :=
  (∀ k, r.cur = some k ∨ r.nxt = some k ∨ r.old = some k → k.state = .loading → k.inFlight = 0)
    ∧ (r.state = .opened → ∀ k, r.cur = some k → k.state = .loading)

/-- R30, R31: the in-flight count of every key is the number of entries that are counted for it; no entry is counted for a key that is not
there. -/
def State.countsSound (s : State) : Prop :=
  (∀ a p, s.countFor a p = slotInFlight ((s.record a).keyOf p)) ∧ s.lanesExact ∧ ∀ a, (s.record a).loadingSound

/-! ### Sequences of packet numbers (R67, R130) -/

/-- The packet numbers that a key gives to frames of the charges listed, one after another, while it is IN-USE (R66, R67). -/
def Key.assigns (k : Key) : List Nat → List Nat
  | [] => []
  | b :: bs => if k.state = .inUse then k.n :: (k.charge b).assigns bs else []

/-- The packet numbers among those listed that pass the final window check, one after another (R130). -/
def Window.passes (w : Window) : List Nat → List Nat
  | [] => []
  | p :: ps => if w.test p = none then p :: (w.accept p).passes ps else w.passes ps

/-! ### Requests -/

/-- Table 10-4: the request code of a command that executes a request. -/
def requestCode : Instr → Option Byte
  | .identify => some 0x01
  | .deviceStatus => some 0x02
  | .softReset => some 0x03
  | .zeroize => some 0x04
  | .setLinkMode => some 0x10
  | .setLinkParams => some 0x11
  | .readLink => some 0x12
  | .readCounters => some 0x13
  | .setRangeRule => some 0x20
  | .addFlow => some 0x21
  | .removeFlow => some 0x22
  | .readFlow => some 0x23
  | .openAssoc => some 0x30
  | .setAssoc => some 0x31
  | .readAssoc => some 0x32
  | .testAssoc => some 0x33
  | .installKey => some 0x34
  | .rollover => some 0x35
  | .retire => some 0x36
  | .release => some 0x37
  | .purge => some 0x40
  | .purgeSuspend => some 0x41
  | .purgeResume => some 0x42
  | .purgeCancel => some 0x43
  | .storeStatus => some 0x44
  | .provisionWrite => some 0x50
  | .provisionLock => some 0x51
  | .provisionRead => some 0x52
  | _ => none

/-- R99, R100, R35, R83, R52, R57 to R59, R44, R151, R153, R165, R177 to R179: the body length of a request that is not repeatable and
defines one length. (INSTALL-KEY defines one for each of its forms, R45.) -/
def bodyLengthOf : Instr → Option Nat
  | .identify | .deviceStatus | .softReset | .zeroize | .purgeSuspend | .purgeResume | .purgeCancel | .storeStatus => some 0
  | .setLinkMode => some 2
  | .setLinkParams => some 55
  | .addFlow => some 13
  | .removeFlow => some 10
  | .openAssoc => some 27
  | .rollover => some 2
  | .purge => some 7
  | .provisionWrite => some 66
  | .provisionLock => some 3
  | .provisionRead => some 1
  | _ => none

/-- R164: request `q` is at the head of the queue, with `rest` behind it, and its execution can begin. -/
abbrev State.canBegin (s : State) (q : Request) (rest : List Request) : Prop :=
  s.control.requests = q :: rest ∧ s.control.exec = .idle ∧ (∀ r ∈ s.control.replies, r.executed = false)
    ∧ s.device.state ≠ .inReset

/-- R164, R165: request `q` of code `code` is at the head, can begin, and passes the general checks of an unconditional request. -/
abbrev State.asks (s : State) (q : Request) (rest : List Request) (code : Byte) : Prop :=
  s.canBegin q rest ∧ s.device.state = .running ∧ q.code = code ∧ q.cond = 0

/-- R164, R165, R168: the same for a conditional request, with a condition of Table 10-3. -/
abbrev State.asksIf (s : State) (q : Request) (rest : List Request) (code : Byte) : Prop :=
  s.canBegin q rest ∧ s.device.state = .running ∧ q.code = code ∧ q.cond.toNat ≤ 7

/-- R34, R148, R149, R94, R101: the commands that execute a repeatable request, with what their items do. -/
def repeatOf : Instr → Option Repeatable
  | .readLink => some readLink
  | .readCounters => some readCounters
  | .setRangeRule => some setRangeRule
  | .readFlow => some readFlow
  | .setAssoc => some (recordRepeat 0x31 true 23 1 State.setAssocItem)
  | .readAssoc => some (recordRepeat 0x32 false 2 128 State.readAssocItem)
  | .testAssoc => some (recordRepeat 0x33 true 2 4 State.testAssocItem)
  | .retire => some (recordRepeat 0x36 true 2 1 State.retireItem)
  | .release => some (recordRepeat 0x37 false 2 1 State.releaseItem)
  | _ => none

/-- R164, R165: the control unit after the reply to a request that is not repeatable has been composed and the transmitter has made its
choice. -/
def Control.replied (c : Control) (q : Request) (status : Status) (flags : Flags) (body : Bytes) : Control :=
  (c.answer status { flags with repeatIgnored := q.repeatCount != 0 } 0 body).pump

/-- R165, R167: the same for the reply of a repeat of `k` items. -/
def Control.repliedItems (c : Control) (flags : Flags) (k : Nat) (body : Bytes) : Control := (c.answer .ok flags (k % 256) body).pump

end Sys2Proof.Machine
end

