-- ==== Sys2Proof/Certificates/Slice0/Obligations.lean ====
section
/-! DEFINITION. The statements about the model, each with the rule of spec/ it comes from. OBLIGATIONS.json lists them. -/

open Sys2Proof Sys2Proof.Machine

/-! ### The whole part -/

/-- A step runs the command at the front of the queue on the state with the rest of the queue; with no command one bit time passes (the
model's choice, log 1). No command touches the queue of commands that wait. -/
def Obligations.StepRunsFront : Prop :=
  ((∀ (c : Instr) (rest : List Instr) (s : State), s.pending = c :: rest → step s = exec c (s.withPending rest))
     ∧ ∀ s : State, s.pending = [] → step s = .next (s.withNow (s.now + 1)))
  ∧ (∀ (i : Instr) (s t : State), exec i s = .next t → t.pending = s.pending)

/-- R108, R142: in every step each buffer's cells stay accounted for, and each order queue within its bounds. -/
def Obligations.BuffersStaySound : Prop :=
  ∀ s t : State, s.buffersSound → step s = .next t → t.buffersSound

/-- R163, R164, R170: in every step the control unit's lists stay within their bounds and it executes one request at a time. -/
def Obligations.ControlStaysSound : Prop :=
  ∀ s t : State, s.controlSound → step s = .next t → t.controlSound

/-- R143, R153, Table 2-2: in every step every parameter of a link and of a record stays in its range. -/
def Obligations.ParamsStayInRange : Prop :=
  ∀ s t : State, s.paramsInRange → step s = .next t → t.paramsInRange

/-- R26, R43: in every step the phases of each record's keys stay distinct, and an install stays alone with no purge ACTIVE. -/
def Obligations.StoreStaysSound : Prop :=
  ∀ s t : State, s.controlSound → s.storeSound → step s = .next t → t.storeSound

/-- R30, R31, R120, R121: in every step the in-flight count of each key stays the number of WAITING and IN-LANE entries that refer to it,
no such entry refers to a key that is gone, and each BUSY lane has exactly one entry. So a key that is destroyed because its count is 0 is
destroyed with no entry referring to it. -/
def Obligations.InFlightCountsStayExact : Prop :=
  ∀ s t : State, s.controlSound → s.storeSound → s.countsSound → step s = .next t → t.countsSound

/-- The reset state has the invariants that every step keeps. -/
def Obligations.ResetIsSound : Prop :=
  State.reset.buffersSound ∧ State.reset.controlSound ∧ State.reset.paramsInRange ∧ State.reset.storeSound ∧ State.reset.countsSound

/-- R130: under one ingress key no packet number passes the final window check twice, whatever comes in whatever order; and 0 never
passes. -/
def Obligations.WindowNeverRepeats : Prop :=
  ∀ (w : Nat) (ps : List Nat), ((Window.empty w).passes ps).Nodup ∧ 0 ∉ (Window.empty w).passes ps

/-- R67: the packet numbers that a key gives, one frame after another, rise strictly and lie in 1 to 0xFFFFFFFF. -/
def Obligations.PacketNumbersRise : Prop :=
  ∀ (k : Key) (bs : List Nat), 1 ≤ k.n → k.n ≤ 0xFFFFFFFF →
    (k.assigns bs).Pairwise (· < ·) ∧ ∀ p ∈ k.assigns bs, k.n ≤ p ∧ p ≤ 0xFFFFFFFF

/-- R165: while the device is STARTING or FAILED every request of Table 10-4 but IDENTIFY and DEVICE-STATUS is answered NOT-RUNNING with
DONE-COUNT 0, FLAGS 0 and an empty body, and nothing else is changed. R165: on a RUNNING device a request that is not conditional and
carries COND is answered NOT-CONDITIONAL, and a conditional one with COND above 7 BAD-FIELD; nothing else is changed. R165: a request
whose code is not in Table 10-4 is answered UNKNOWN-REQUEST in every device state, with FLAGS 0, DONE-COUNT 0 and an empty body, and
changes nothing else. With a code of the table the UNKNOWN_REQUEST command has no request to act on (log 2). R165: a request that is not
repeatable and passes these checks, but whose body has another length than the one it defines, is answered BAD-LENGTH with DONE-COUNT 0 and
an empty body, REPEAT-IGNORED when it carried REPEAT above 0, and nothing else is changed, not even by IF-SOFT: the length comes before the
condition (log 12). -/
def Obligations.GeneralChecksRefuse : Prop :=
  (∀ (i : Instr) (code : Byte) (s : State) (q : Request) (rest : List Request),
     requestCode i = some code → i ≠ .identify → i ≠ .deviceStatus → s.canBegin q rest → q.code = code → s.device.state ≠ .running →
       exec i s = .next (s.withControl (s.control.answer .notRunning Flags.none 0 []).pump))
  ∧ (∀ (i : Instr) (code : Byte) (s : State) (q : Request) (rest : List Request),
     requestCode i = some code → s.canBegin q rest → q.code = code → s.device.state = .running → q.cond ≠ 0 →
       (i ∉ [.openAssoc, .setAssoc, .testAssoc, .installKey, .rollover, .retire] →
         exec i s = .next (s.withControl (s.control.answer .notConditional Flags.none 0 []).pump))
       ∧ (i ∈ [.openAssoc, .setAssoc, .testAssoc, .installKey, .rollover, .retire] → 7 < q.cond.toNat →
         exec i s = .next (s.withControl (s.control.answer .badField Flags.none 0 []).pump)))
  ∧ (∀ (s : State) (q : Request) (rest : List Request), s.canBegin q rest →
     (q.code ∉ requestCodes →
       exec .unknownRequest s = .next (s.withControl (s.control.answer .unknownRequest Flags.none 0 []).pump))
     ∧ (q.code ∈ requestCodes → exec .unknownRequest s = .next s))
  ∧ (∀ (i : Instr) (code : Byte) (len : Nat) (s : State) (q : Request) (rest : List Request),
     requestCode i = some code → bodyLengthOf i = some len → s.canBegin q rest → q.code = code →
     (s.device.state = .running ∨ i = .identify ∨ i = .deviceStatus) →
     (q.cond = 0 ∨ ((i = .openAssoc ∨ i = .rollover) ∧ q.cond.toNat ≤ 7)) → q.body.length ≠ len →
       exec i s = .next (s.withControl (s.control.replied q .badLength Flags.none [])))

/-- R164: a request does not begin while the reply of the request executed before it waits, or while another is executing. While a repeat
stands between two items, only a command of its own request goes on with it; a command of any other request changes nothing, and neither
does UNKNOWN_REQUEST. -/
def Obligations.RequestsWaitTheirTurn : Prop :=
  ∀ (i : Instr) (code : Byte) (s : State), requestCode i = some code →
    ((s.control.exec = .idle ∧ ∃ r ∈ s.control.replies, r.executed = true) ∨ s.control.exec = .installing
      ∨ s.control.exec = .awaitingBoundary ∨ s.control.exec = .programming
      ∨ ∃ next left done fl data, s.control.exec = .items next left done fl data
          ∧ ∀ q rest, s.control.requests = q :: rest → q.code ≠ code) →
      exec i s = .next s ∧ exec .unknownRequest s = .next s

/-! ### Requests on the whole part (R165, R172, R173, R179 to R182) -/

/-- R172, Table 10-6: IDENTIFY, in every device state, answers OK with the 95 bytes that describe the part, the lane health map among
them, and changes nothing else. R173: DEVICE-STATUS, in every device state, answers OK with the device state, the straps, the two loss
flags, the port states, the modes, the Store's readiness, what is provisioned and the zeroize count; the two loss flags are cleared, and
nothing else is changed. The codes of the two straps, 0 for low and 1 for high, are the model's choice (log 22). -/
def Obligations.PartDescribesItself : Prop :=
  (∀ (s : State) (q : Request) (rest : List Request), s.canBegin q rest → q.code = 0x01 → q.cond = 0 → q.body = [] →
     exec .identify s = .next (s.withControl (s.control.replied q .ok Flags.none
       ([0x0D, 0x4A, 0x44, 0x10, s.prov.revision] ++ s.prov.serial ++ [0]
         ++ [1, 2, 0, 28, 8, BitVec.ofNat 8 (laneHealth s.lanes)]
         ++ [2, 7, 0, 39, 8, 0, 4, 2, 0, 3, 0]
         ++ [3, 6, 0, 49, 4, 0, 12, 0, 8, 32]
         ++ [4, 8, 0, 61, 0, 0, 0, 16, 0, 64, 1, 0]
         ++ [5, 14, 0, 79, 0, 64, 5, 238, 36, 0, 5, 238, 37, 128, 0, 64, 5, 238]
         ++ [6, 12, 0, 0, 0, 128, 0, 32, 8, 0, 0, 128, 0, 8, 0, 32])))
     ∧ ∀ l : LaneId, (BitVec.ofNat 8 (laneHealth s.lanes) : Byte).getLsbD l.val = true ↔ s.lane l ≠ .failed)
  ∧ (∀ (s : State) (q : Request) (rest : List Request), s.canBegin q rest → q.code = 0x02 → q.cond = 0 → q.body = [] →
     exec .deviceStatus s
       = .next (s.withControl (({ s.control with noticesLost := false, repliesLost := false } : Control).replied q .ok Flags.none
           ([s.device.state.code] ++ yesNo s.device.ctrlRate ++ yesNo s.device.wrapOnly ++ yesNo s.control.noticesLost
             ++ yesNo s.control.repliesLost
             ++ [upCode (s.link 0).rack.up, upCode (s.link 1).rack.up, upCode (s.link 2).rack.up, upCode (s.link 3).rack.up]
             ++ [upCode (s.link 0).campus.up, upCode (s.link 1).campus.up, upCode (s.link 2).campus.up, upCode (s.link 3).campus.up]
             ++ [(s.link 0).mode.code, (s.link 1).mode.code, (s.link 2).mode.code, (s.link 3).mode.code]
             ++ yesNo s.bank.ready ++ yesNo s.prov.kwk.isSome ++ yesNo s.prov.label.isSome ++ yesNo s.prov.locked
             ++ u16 s.device.zeroizeCount))))

/-- R179: PROVISION-READ. A body of another length than 1 is refused with BAD-LENGTH and a byte other than 0 and 1 with BAD-FIELD; a
condition is refused; REPEAT is ignored and flagged. The factory half is the serial number, the silicon revision and the identity digest;
the customer half is the KWK's marker and check value, the label's marker, length and 64 bytes, and the lock. Nothing is changed, and no
reply depends on the KWK. -/
def Obligations.ProvisionReadReportsOneHalf : Prop :=
  (∀ (s : State) (q : Request) (rest : List Request), s.asks q rest 0x52 →
    (q.body.length ≠ 1 → exec .provisionRead s = .next (s.withControl (s.control.replied q .badLength Flags.none [])))
    ∧ (∀ b, q.body = [b] → 1 < b.toNat → exec .provisionRead s = .next (s.withControl (s.control.replied q .badField Flags.none [])))
    ∧ (q.body = [0] → exec .provisionRead s = .next (s.withControl (s.control.replied q .ok Flags.none
        (s.prov.serial ++ [s.prov.revision] ++ s.prov.digest))))
    ∧ (q.body = [1] → exec .provisionRead s = .next (s.withControl (s.control.replied q .ok Flags.none
        ((match s.prov.kwk with | some (_, check) => 1 :: check | none => [0, 0, 0, 0])
          ++ (match s.prov.label with
              | some text => [1, BitVec.ofNat 8 text.length] ++ text ++ zeros (64 - text.length)
              | none => [0, 0] ++ zeros 64)
          ++ [if s.prov.locked then 1 else 0])))))
  ∧ (∀ (s : State) (q : Request) (rest : List Request), s.canBegin q rest → s.device.state = .running → q.code = 0x52 → q.cond ≠ 0 →
      exec .provisionRead s = .next (s.withControl (s.control.answer .notConditional Flags.none 0 []).pump))
  ∧ ∀ (s : State) (key key' check : Bytes), s.prov.kwk = some (key, check) → ∀ (q : Request) (rest : List Request),
      s.asks q rest 0x52 → ∀ t t' : State, exec .provisionRead s = .next t →
        exec .provisionRead (s.withProv { s.prov with kwk := some (key', check) }) = .next t' → t'.control = t.control

/-- R41, R122, R180, R181: ZEROIZE empties every record and destroys every key, aborts the lanes, empties every queue, sets every link to
HALT, ends an install and a purge, raises the count, queues a ZEROIZED notice with source REQUEST, and answers OK with the new count. What
it must keep, it keeps: port states and a transmit pause among it, while a frame in transmission is stopped. R144: every buffer is NORMAL
after it, and one that was PAUSING asks for its PAUSE 0 (also while stored frames keep its free cells below XON: log 36). An entry that was
DROPPED before is not counted as ZEROIZED again (log 18). R51, R61, R167, R180, R181: the ZEROIZE input does the same in every device state but while RESET is asserted, with
source INPUT. An install and a waiting PURGE-SUSPEND or PURGE-CANCEL end with BAD-STATE, a repeat between two items with the items done so far
and CLAMPED; a programming request goes on (log 17), and an edge while a RESET waits for programming is not acted on (log 17). -/
def Obligations.ZeroizationDestroysKeys : Prop :=
  (∀ (s : State) (q : Request) (rest : List Request), s.asks q rest 0x04 → q.body = [] →
     ∃ t, exec .zeroize s = .next t ∧ s.zeroizedTo t
       ∧ t.device = { s.device with zeroizeCount := min 65535 (s.device.zeroizeCount + 1) }
       ∧ t.bank.lastPurge = (if s.bank.purge.isSome then .zeroized else s.bank.lastPurge)
       ∧ t.bank.lastInstall = (match s.bank.install with | some i => some (.badState, i.index) | none => s.bank.lastInstall)
       ∧ t.control = (s.control.notify (.zeroized .request (min 65535 (s.device.zeroizeCount + 1)) (s.bank.install.map Install.index)
           s.bank.purge)).replied q .ok Flags.none (u16 (min 65535 (s.device.zeroizeCount + 1))))
  ∧ (∀ s : State,
     (s.device.state = .inReset ∨ s.device.resetWaits = true → exec .zeroizeInput s = .next s)
     ∧ (s.device.state ≠ .inReset → s.device.resetWaits = false → ∃ t, exec .zeroizeInput s = .next t ∧ s.zeroizedTo t
         ∧ t.device = { s.device with zeroizeCount := min 65535 (s.device.zeroizeCount + 1) }
         ∧ t.bank.lastPurge = (if s.bank.purge.isSome then .zeroized else s.bank.lastPurge)
         ∧ t.bank.lastInstall = (match s.bank.install with | some i => some (.badState, i.index) | none => s.bank.lastInstall)
         ∧ ∀ c, c = s.control.notify (.zeroized .input (min 65535 (s.device.zeroizeCount + 1)) (s.bank.install.map Install.index)
               s.bank.purge) →
             (s.control.exec = .idle ∨ s.control.exec = .programming → t.control = c.pump)
             ∧ (∀ q rest, s.control.requests = q :: rest →
                 (s.control.exec = .installing ∨ s.control.exec = .awaitingBoundary →
                   t.control = c.replied q .badState Flags.none [])
                 ∧ ∀ i left done fl data, s.control.exec = .items i left done fl data →
                     t.control = c.repliedItems { fl with clamped := true } done data)))

/-- R96, R147, R156, R171, R182: SOFT-RESET does what a zeroization does, without its count and its notice, and sets every counter, hit
count and cover-skipped count and the last results of the bank operation unit to their hard-reset values; the control unit keeps only the
executing request, whose OK reply is the first of the emptied reply list. Parameters, rules, flow entries, stored frames, port states,
transmit pauses, device state, the zeroize count and the provisioning area are kept. R142, R144: the cells of the dropped entries are free
and every buffer is NORMAL (log 36). -/
def Obligations.SoftResetClears : Prop :=
  ∀ (s : State) (q : Request) (rest : List Request), s.asks q rest 0x03 → q.body = [] →
    ∃ t, exec .softReset s = .next t
      ∧ (∀ a, t.record a = Record.blank (s.record a).generation) ∧ (∀ l, t.lane l = (s.lane l).abort) ∧ t.lastGrant = 7
      ∧ s.trafficCleared t ∧ (∀ d n, (t.path d n).counters = Counters.zero)
      ∧ (∀ n, (t.link n).mode = .halt ∧ (t.link n).cover = { nextAt := none, stalled := false, skipped := 0 }
          ∧ (t.link n).params = (s.link n).params)
      ∧ t.bank = BankUnit.idle ∧ t.rules = s.rules ∧ t.device = s.device ∧ t.prov = s.prov ∧ t.now = s.now ∧ t.pending = s.pending
      ∧ t.flow.free = s.flow.free ∧ (∀ b, t.flow.chain b = (s.flow.chain b).map fun e => { e with hits := 0 })
      ∧ t.control = ({ s.control with
          requests := [q], replies := [], notices := [], noticesLost := false, repliesLost := false } : Control).replied q .ok Flags.none []

/-! ### Requests on links (R147 to R155) -/

/-- R151, R152: SET-LINK-MODE answers OK with the link, its old mode and its new mode. A change to COVER starts the cover timer, one cover
interval from now; every other change leaves it stopped; a change clears the stall flag and the mode a link has already changes nothing. A
link above 3 is refused with BAD-INDEX and a mode above 3 with BAD-FIELD. -/
def Obligations.SetLinkModeChangesMode : Prop :=
  ∀ (s : State) (q : Request) (rest : List Request) (b0 b1 : Byte), s.asks q rest 0x10 → q.body = [b0, b1] →
    (3 < b0.toNat → exec .setLinkMode s = .next (s.withControl (s.control.replied q .badIndex Flags.none [])))
    ∧ ∀ n : LinkId, n.val = b0.toNat →
      (3 < b1.toNat → exec .setLinkMode s = .next (s.withControl (s.control.replied q .badField Flags.none [])))
      ∧ ∀ m : Mode, m.code = b1 →
        exec .setLinkMode s = .next
          ((if (s.link n).mode = m then s
            else s.setLink n { s.link n with
              mode := m
              cover := { nextAt := if m = .cover then some (s.now + (s.link n).params.coverInterval * Config.usTicks) else none,
                         stalled := false, skipped := (s.link n).cover.skipped } }).withControl
            (s.control.replied q .ok Flags.none [b0, (s.link n).mode.code, b1]))

/-- R3, R143, R153, R154, Table 9-1: the 17 parameters of a link after SET-LINK-PARAMS. A parameter whose marker is 0 keeps its value; a
number outside its range is clamped; an envelope type of 0x8100, a default verdict above 2 and an association that is neither an index nor
none are held; an XON not above its XOFF becomes XOFF + 1. R143, R144, R153: SET-LINK-PARAMS gives the link the parameters of its body,
makes each buffer whose XOFF or XON changes test them (a threshold set to the value it has is no change: log 36), and answers OK with every
parameter and the state of the cover generator (the widths of the reply: log 9); CLAMPED says that a value was clamped or an XON raised,
HELD that a value was held. R153: with every marker 0 it changes nothing. A resend interval that is running keeps its deadline when the
quanta change (log 34). A marker that is neither 0 nor 1 is refused with BAD-FIELD, a link above 3 with BAD-INDEX. No queue, counter, free cell,
mode or port state is changed. -/
def Obligations.SetLinkParamsSetsThem : Prop :=
  (∀ (p : LinkParams) (b : Bytes), ∀ p' : LinkParams, p' = (applyLinkParams p b).1 →
     let given (i : Nat) : Bool := byteAt b i == 1
     p'.envType = (if given 1 then (if numAt b 2 2 = 0x8100 then p.envType else min 0xFFFF (max 0x0600 (numAt b 2 2))) else p.envType)
     ∧ p'.rackMax = (if given 4 then min 9216 (max 1518 (numAt b 5 2)) else p.rackMax)
     ∧ p'.campusMax = (if given 7 then min 9600 (max 1518 (numAt b 8 2)) else p.campusMax)
     ∧ p'.defVerdict = (if given 10 then (match numAt b 11 1 with | 0 => .encrypt | 1 => .bypass | 2 => .discard | _ => p.defVerdict)
         else p.defVerdict)
     ∧ p'.defAssoc = (if given 12 then (if numAt b 13 2 = 0xFFFF then none
         else if h : numAt b 13 2 < 2048 then some ⟨numAt b 13 2, h⟩ else p.defAssoc) else p.defAssoc)
     ∧ p'.holdTimeout = (if given 15 then min 10000 (max 10 (numAt b 16 4)) else p.holdTimeout)
     ∧ p'.graceInterval = (if given 20 then min 1000 (max 1 (numAt b 21 4)) else p.graceInterval)
     ∧ p'.egressBuf.xoff = (if given 25 then min 2047 (max 1 (numAt b 26 2)) else p.egressBuf.xoff)
     ∧ p'.ingressBuf.xoff = (if given 28 then min 2047 (max 1 (numAt b 29 2)) else p.ingressBuf.xoff)
     ∧ p'.egressBuf.xon = max (p'.egressBuf.xoff + 1) (if given 31 then min 2048 (max 2 (numAt b 32 2)) else p.egressBuf.xon)
     ∧ p'.ingressBuf.xon = max (p'.ingressBuf.xoff + 1) (if given 34 then min 2048 (max 2 (numAt b 35 2)) else p.ingressBuf.xon)
     ∧ p'.egressBuf.quanta = (if given 37 then min 0xFFFF (max 1 (numAt b 38 2)) else p.egressBuf.quanta)
     ∧ p'.ingressBuf.quanta = (if given 40 then min 0xFFFF (max 1 (numAt b 41 2)) else p.ingressBuf.quanta)
     ∧ p'.coverInterval = (if given 43 then min 0xFFFF (max 1 (numAt b 44 2)) else p.coverInterval)
     ∧ p'.coverLen = (if given 46 then min 1518 (max 64 (numAt b 47 2)) else p.coverLen)
     ∧ p'.coverAssoc = (if given 49 then (if numAt b 50 2 = 0xFFFF then none
         else if h : numAt b 50 2 < 2048 then some ⟨numAt b 50 2, h⟩ else p.coverAssoc) else p.coverAssoc)
     ∧ p'.coverCode = (if given 52 then numAt b 53 2 else p.coverCode)
     ∧ ((applyLinkParams p b).2.clamped = true ↔
         (given 1 ∧ numAt b 2 2 < 0x0600) ∨ (given 4 ∧ (numAt b 5 2 < 1518 ∨ 9216 < numAt b 5 2))
         ∨ (given 7 ∧ (numAt b 8 2 < 1518 ∨ 9600 < numAt b 8 2)) ∨ (given 15 ∧ (numAt b 16 4 < 10 ∨ 10000 < numAt b 16 4))
         ∨ (given 20 ∧ (numAt b 21 4 < 1 ∨ 1000 < numAt b 21 4)) ∨ (given 25 ∧ (numAt b 26 2 < 1 ∨ 2047 < numAt b 26 2))
         ∨ (given 28 ∧ (numAt b 29 2 < 1 ∨ 2047 < numAt b 29 2)) ∨ (given 31 ∧ (numAt b 32 2 < 2 ∨ 2048 < numAt b 32 2))
         ∨ (given 34 ∧ (numAt b 35 2 < 2 ∨ 2048 < numAt b 35 2)) ∨ (given 37 ∧ numAt b 38 2 = 0) ∨ (given 40 ∧ numAt b 41 2 = 0)
         ∨ (given 43 ∧ numAt b 44 2 = 0) ∨ (given 46 ∧ (numAt b 47 2 < 64 ∨ 1518 < numAt b 47 2))
         ∨ (if given 31 then min 2048 (max 2 (numAt b 32 2)) else p.egressBuf.xon) ≤ p'.egressBuf.xoff
         ∨ (if given 34 then min 2048 (max 2 (numAt b 35 2)) else p.ingressBuf.xon) ≤ p'.ingressBuf.xoff)
     ∧ (applyLinkParams p b).2.repeatIgnored = false)
  ∧ (∀ (s : State) (q : Request) (rest : List Request), s.asks q rest 0x11 → q.body.length = 55 →
     (3 < (byteAt q.body 0).toNat → exec .setLinkParams s = .next (s.withControl (s.control.replied q .badIndex Flags.none [])))
     ∧ ∀ n : LinkId, n.val = (byteAt q.body 0).toNat →
       ((∃ i ∈ linkMarkers, 1 < (byteAt q.body i).toNat) →
         exec .setLinkParams s = .next (s.withControl (s.control.replied q .badField Flags.none [])))
       ∧ ((∀ i ∈ linkMarkers, (byteAt q.body i).toNat ≤ 1) →
         ∃ t, exec .setLinkParams s = .next t ∧ t.params n = (applyLinkParams (s.params n) q.body).1
           ∧ ((applyLinkParams (s.params n) q.body).2.held = true ↔
               (byteAt q.body 1 = 1 ∧ numAt q.body 2 2 = 0x8100) ∨ (byteAt q.body 10 = 1 ∧ 2 < numAt q.body 11 1)
               ∨ (byteAt q.body 12 = 1 ∧ 2048 ≤ numAt q.body 13 2 ∧ numAt q.body 13 2 ≠ 0xFFFF)
               ∨ (byteAt q.body 49 = 1 ∧ 2048 ≤ numAt q.body 50 2 ∧ numAt q.body 50 2 ≠ 0xFFFF))
           ∧ t.control = s.control.replied q .ok (applyLinkParams (s.params n) q.body).2
               ((t.params n).report ++ yesNo (s.link n).cover.nextAt.isSome ++ yesNo (s.link n).cover.stalled
                 ++ u32 (s.link n).cover.skipped)
           ∧ (∀ d, ∀ b b' : BufferParams, b = (s.params n).buf d → b' = (t.params n).buf d →
               (b'.xoff = b.xoff → b'.xon = b.xon → t.path d n = s.path d n)
               ∧ (b'.xoff ≠ b.xoff ∨ b'.xon ≠ b.xon → ((t.path d n).pausing = true ↔ (s.path d n).free < b'.xoff
                   ∨ ((s.path d n).pausing = true ∧ (s.path d n).free < b'.xon)))
               ∧ t.path d n = { s.path d n with
                   pausing := (t.path d n).pausing
                   resendAt := if (t.path d n).pausing = (s.path d n).pausing then (s.path d n).resendAt
                     else if (t.path d n).pausing then some (s.now + b'.quanta * 512 / 2) else none }
               ∧ t.port (feedSide d) n = { s.port (feedSide d) n with
                   pauseAsked := (s.port (feedSide d) n).pauseAsked
                     ++ if (t.path d n).pausing = (s.path d n).pausing ∨ (s.port (feedSide d) n).up = false then []
                        else if (t.path d n).pausing then [.stop] else [.resume] })
           ∧ ((∀ i ∈ linkMarkers, byteAt q.body i = 0) → (s.params n).inRange →
               t = s.withControl t.control ∧ (applyLinkParams (s.params n) q.body).2 = Flags.none)
           ∧ (t.link n).mode = (s.link n).mode ∧ (t.link n).cover = (s.link n).cover
           ∧ (∀ m, m ≠ n → t.link m = s.link m)
           ∧ t.records = s.records ∧ t.bank = s.bank ∧ t.rules = s.rules ∧ t.flow = s.flow ∧ t.lanes = s.lanes
           ∧ t.lastGrant = s.lastGrant ∧ t.device = s.device ∧ t.prov = s.prov ∧ t.now = s.now))

/-- R138, R144, R149, R160: READ-LINK of one link answers OK with 48 bytes: link, mode, for each port its state and what is left of its
transmit pause in quanta rounded up, for each buffer its pause state and free cells, for each queue its occupancy and HELD count, the
stall flag, and zeros; it changes nothing else. The layout is the model's reading (log 9), the number for 'not paused' a free value (log
7). R147, R148: READ-COUNTERS of one link answers OK with a 4-byte header and the 35 egress and 35 ingress counters, 6 bytes each: 424
bytes; that the link number is the header's first byte is the model's choice (log 9). With the clear option every counter of the link
becomes 0 in the same change; nothing else is changed. An option above 1 is refused with BAD-FIELD before any item is done. -/
def Obligations.LinkReportsAndCounters : Prop :=
  (∀ (s : State) (q : Request) (rest : List Request) (n : LinkId), s.asks q rest 0x12 → q.repeatCount = 0 → q.body = u8 n.val →
     exec .readLink s = .next (s.withControl (s.control.repliedItems Flags.none 1
       (u8 n.val ++ [(s.link n).mode.code]
         ++ [upCode (s.link n).rack.up] ++ u16 (match (s.link n).rack.pausedUntil with
               | some t => (t - s.now + 511) / 512
               | none => Config.notPaused)
         ++ [upCode (s.link n).campus.up] ++ u16 (match (s.link n).campus.pausedUntil with
               | some t => (t - s.now + 511) / 512
               | none => Config.notPaused)
         ++ [if (s.link n).egress.pausing then 1 else 0] ++ u16 (s.link n).egress.free
         ++ [if (s.link n).ingress.pausing then 1 else 0] ++ u16 (s.link n).ingress.free
         ++ u8 (s.link n).egress.queue.length ++ u8 (heldCount (s.link n).egress.queue)
         ++ u8 (s.link n).ingress.queue.length ++ u8 (heldCount (s.link n).ingress.queue)
         ++ yesNo (s.link n).cover.stalled ++ zeros 29))))
  ∧ (∀ (s : State) (q : Request) (rest : List Request) (n : LinkId), s.asks q rest 0x13 →
     (∀ c : Byte, 1 < c.toNat → q.body = u8 n.val ++ [c] → exec .readCounters s = .next (s.withControl (s.control.answer .badField Flags.none 0 []).pump))
     ∧ (q.repeatCount = 0 → ∀ clear : Bool, q.body = u8 n.val ++ yesNo clear →
         exec .readCounters s = .next
           ((if clear then s.setLink n { s.link n with
               egress := { (s.link n).egress with counters := Counters.zero }
               ingress := { (s.link n).ingress with counters := Counters.zero } } else s).withControl
             (s.control.repliedItems Flags.none 1
               (u8 n.val ++ zeros 3 ++ ((s.link n).egress.counters.values ++ (s.link n).ingress.counters.values).flatMap u48)))
         ∧ (u8 n.val ++ zeros 3
             ++ ((s.link n).egress.counters.values ++ (s.link n).ingress.counters.values).flatMap u48 : Bytes).length = 424))

/-! ### Requests on the classifier's tables (R93 to R101) -/

/-- R94: SET-RANGE-RULE of one rule writes it whole: a PAIR gives low and high, a COUNT the low value and how many values; a value above
the greatest of the field is clamped and flagged. A field, sense, verdict or form outside its set, a low value above the greatest of the
field, a high below low and a count of 0 give the outcome BAD-FIELD and leave the rule. An enabled byte that is neither 0 nor 1 enables
the rule or not by a free value, the model's choice (log 8). -/
def Obligations.SetRangeRuleWritesARule : Prop :=
  ∀ (s : State) (q : Request) (rest : List Request) (i : Fin 32) (on links dirs field sense vd form : Byte) (low second : Nat),
    s.asks q rest 0x20 → q.repeatCount = 0 → low < 65536 → second < 65536 →
    q.body = u8 i.val ++ [on, links, dirs, field, sense, vd, form] ++ u16 low ++ u16 second →
    ∀ top : Nat, top = (if field = 0 then 4096 else if field = 1 then 0xFFFF else 0xFF) →
    (2 < field.toNat ∨ 1 < sense.toNat ∨ 1 < vd.toNat ∨ 1 < form.toNat ∨ top < low ∨ (form = 0 ∧ second < low)
        ∨ (form = 1 ∧ second = 0) →
      exec .setRangeRule s = .next (s.withControl (s.control.repliedItems Flags.none 1 [Status.badField.code])))
    ∧ ∀ (f : RuleField) (sn : Sense) (v : RuleVerdict),
      RuleField.ofCode field.toNat = some f → Sense.ofCode sense.toNat = some sn → RuleVerdict.ofCode vd.toNat = some v → low ≤ top →
        ∀ high : Nat, (form = 0 ∧ low ≤ second ∧ high = second) ∨ (form = 1 ∧ 1 ≤ second ∧ high = low + second - 1) →
          exec .setRangeRule s = .next
            ((s.setRule i { enabled := if on = 0 then false else if on = 1 then true else Config.strayEnabled on,
                            links := links.truncate 4, dirs := dirs.truncate 2, field := f, low := low, high := min high top,
                            sense := sn, verdict := v }).withControl
              (s.control.repliedItems { Flags.none with clamped := decide (top < high) } 1 [Status.ok.code]))

/-- R96 to R100: an added flow entry is found under its key and no other key's finding changes; it is removed again by its key, and then
the key finds nothing. -/
def Obligations.FlowTableFindsWhatIsAdded : Prop :=
  ∀ (t : FlowTable) (e : FlowEntry), t.find e.key = none →
    (t.add e).find e.key = some e ∧ (∀ k, k ≠ e.key → (t.add e).find k = t.find k)
    ∧ ((t.add e).remove e.key).find e.key = none ∧ (∀ k, ((t.add e).remove e.key).find k = t.find k)
    ∧ (1 ≤ t.free ∨ t.chain e.key.bucket = [] → ((t.add e).remove e.key).free = t.free)

/-- R96: no step breaks the flow table: every entry stands in the chain of its key's bucket, no key twice in it, and no chain has more
than 8 entries. -/
def Obligations.FlowTableStaysSound : Prop :=
  ∀ s t : State, s.flow.sound → step s = .next t → t.flow.sound

/-- R97, R99: ADD-FLOW of a new key adds the entry at the end of its bucket's chain and answers OK with the bucket and the chain's length.
A field outside its set is refused with BAD-FIELD, an association above 2047 with BAD-INDEX, a key that is there with DUPLICATE, a chain
of 8 with CHAIN-TOO-LONG, and a chain that needs an overflow entry when none is free with TABLE-FULL, in that order. -/
def Obligations.AddFlowAddsOrRefuses : Prop :=
  ∀ (s : State) (q : Request) (rest : List Request), s.asks q rest 0x21 → q.body.length = 13 →
    (4 ≤ numAt q.body 0 1 ∨ 4096 < numAt q.body 1 2 ∨ 1 < numAt q.body 3 1 ∨ 2 < numAt q.body 10 1 →
      exec .addFlow s = .next (s.withControl (s.control.replied q .badField Flags.none [])))
    ∧ ∀ (n : LinkId) (any : Bool) (v : Verdict), n.val = numAt q.body 0 1 → numAt q.body 1 2 ≤ 4096 →
      byteAt q.body 3 = (if any then 1 else 0) → v.code = byteAt q.body 10 →
      (v = .encrypt ∧ 2048 ≤ numAt q.body 11 2 →
        exec .addFlow s = .next (s.withControl (s.control.replied q .badIndex Flags.none [])))
      ∧ ∀ assoc : Option AssocId, (if v = .encrypt then ∃ a, assoc = some a ∧ a.val = numAt q.body 11 2 else assoc = none) →
        ∀ (k : FlowKey) (c : List FlowEntry),
          k = { link := n, vid := numAt q.body 1 2, addr := if any then none else some (slice q.body 4 6) } →
          c = s.flow.chain k.bucket →
          exec .addFlow s = .next
            (if ∃ e ∈ c, e.key = k then s.withControl (s.control.replied q .duplicate Flags.none [])
             else if 8 ≤ c.length then s.withControl (s.control.replied q .chainTooLong Flags.none [])
             else if c ≠ [] ∧ s.flow.free = 0 then s.withControl (s.control.replied q .tableFull Flags.none [])
             else (s.withFlow { s.flow.setChain k.bucket (c ++ [{ key := k, verdict := v, assoc := assoc, hits := 0 }]) with
                      free := if c = [] then s.flow.free else s.flow.free - 1 }).withControl
                (s.control.replied q .ok Flags.none (u16 k.bucket.val ++ u8 (c.length + 1))))

/-- R100: REMOVE-FLOW takes the entry of the key out of its chain, returns one overflow entry unless it was alone, and answers OK with its
verdict, its association (0xFFFF for none) and its hit count; a key without an entry is answered NOT-FOUND, a field outside its set
BAD-FIELD. R101: READ-FLOW of one bucket answers OK with its number and the length of its chain in 4 bytes and 24 bytes for each entry in
chain order; it changes nothing else. -/
def Obligations.RemoveAndReadFlow : Prop :=
  (∀ (s : State) (q : Request) (rest : List Request), s.asks q rest 0x22 → q.body.length = 10 →
     (4 ≤ numAt q.body 0 1 ∨ 4096 < numAt q.body 1 2 ∨ 1 < numAt q.body 3 1 →
       exec .removeFlow s = .next (s.withControl (s.control.replied q .badField Flags.none [])))
     ∧ ∀ (n : LinkId) (any : Bool) (k : FlowKey), n.val = numAt q.body 0 1 → numAt q.body 1 2 ≤ 4096 →
       byteAt q.body 3 = (if any then 1 else 0) →
       k = { link := n, vid := numAt q.body 1 2, addr := if any then none else some (slice q.body 4 6) } →
     (s.flow.find k = none → exec .removeFlow s = .next (s.withControl (s.control.replied q .notFound Flags.none [])))
     ∧ ∀ e, s.flow.find k = some e →
       exec .removeFlow s = .next
         ((s.withFlow { s.flow.setChain k.bucket ((s.flow.chain k.bucket).filter fun e => e.key != k) with
             free := if 1 < (s.flow.chain k.bucket).length then s.flow.free + 1 else s.flow.free }).withControl
           (s.control.replied q .ok Flags.none
             ([e.verdict.code] ++ (match e.assoc with | some a => u16 a.val | none => [0xFF, 0xFF]) ++ u32 e.hits))))
  ∧ (∀ (s : State) (q : Request) (rest : List Request) (b : Fin 1024), s.asks q rest 0x23 → q.repeatCount = 0 → q.body = u16 b.val →
     exec .readFlow s = .next (s.withControl (s.control.repliedItems Flags.none 1
       (u16 b.val ++ u8 (s.flow.chain b).length ++ [0] ++ (s.flow.chain b).flatMap FlowEntry.report))))

/-! ### Conditions and repeats (R32 to R34, R167, R168) -/

/-- R32: what each condition tests, against one record and with CARG for IF-GEN only; that IF-SOFT alone clears the soft flag of the
record it tests, true or not; and that a false condition does nothing else and gives COND-FALSE. IF-NOT-STAGED is true of every EMPTY,
OPENED or BARRED record. -/
def Obligations.ConditionsTestTheRecord : Prop :=
  (∀ (r : Record) (arg : Byte),
    r.meets 0 arg = true ∧ (r.meets 1 arg = true ↔ r.state = .empty) ∧ (r.meets 2 arg = true ↔ r.state = .opened)
    ∧ (r.meets 3 arg = true ↔ r.state = .live) ∧ (r.meets 4 arg = true ↔ r.state = .exhausted)
    ∧ (r.meets 5 arg = true ↔ ∃ k, r.cur = some k ∧ (k.state = .inUse ∨ k.state = .spent) ∧ k.soft = true)
    ∧ (r.meets 6 arg = true ↔ r.nxt = none) ∧ (r.meets 7 arg = true ↔ r.generation = arg.toNat)
    ∧ (r.cur = none → r.meets 5 arg = false)
    ∧ (r.keysSound → r.state = .empty ∨ r.state = .opened ∨ r.state = .barred → r.meets 6 arg = true))
  ∧ (∀ (s : State) (q : Request) (a : AssocId), (s.record a).meets q.cond q.carg = false →
    (∀ act, s.itemIfMeets q a act = (s.afterTest a q.cond, Flags.none, [Status.condFalse.code]))
    ∧ ∀ act, s.ifMeets q a act = (s.afterTest a q.cond).answerOnce .condFalse Flags.none [])
  ∧ ∀ (s : State) (a : AssocId) (cond : Byte),
    (cond ≠ 5 → s.afterTest a cond = s)
    ∧ (cond = 5 → s.afterTest a cond
        = s.setRecord a { s.record a with cur := (s.record a).cur.map fun k => { k with soft := false } })

/-- R34, R148, R149, R94, R101, R167: a repeatable request does one item at one command, in increasing index order from the first index;
each item adds its data and its flags; the reply comes after the last item asked for, or CLAMPED after the last valid index or before an
item whose data would take the body beyond 1024 bytes. One command for one item is the model's choice (log 3). R165, R167, R85: a request
that passes the general checks and whose body has another length than the one it defines is refused whole with BAD-LENGTH, whatever index
it names; one of that length whose first index is above the last valid one is refused whole with BAD-INDEX. Each has DONE-COUNT 0, FLAGS 0
and an empty body, and changes nothing else. That the length comes before the index, and the
index before the clear option of READ-COUNTERS, is the model's (log 12). -/
def Obligations.RepeatsDoTheirItemsInOrder : Prop :=
  ∀ (i : Instr) (k : Repeatable), repeatOf i = some k → ∀ (s : State) (q : Request) (rest : List Request),
    q.code = k.code → s.control.requests = q :: rest →
    (∀ (j left done : Nat) (fl : Flags) (data : Bytes),
      s.control.exec = .items j left done fl data
        ∨ (s.asksIf q rest k.code ∧ (q.cond = 0 ∨ k.conditional = true) ∧ q.body.length = k.bodyLength ∧ k.first q ≤ k.lastIndex
            ∧ k.bodyCheck q = none ∧ j = k.first q ∧ left = q.repeatCount.toNat + 1 ∧ done = 0 ∧ fl = Flags.none ∧ data = []) →
      ∀ (t : State) (fl' : Flags) (more : Bytes), k.item q j s = (t, fl', more) →
        (left ≤ 1 → exec i s = .next (t.withControl (t.control.repliedItems (fl.join fl') (done + 1) (data ++ more))))
        ∧ (1 < left → k.lastIndex ≤ j ∨ 1024 < (data ++ more).length + k.size t (j + 1) →
            exec i s = .next (t.withControl (t.control.repliedItems { fl.join fl' with clamped := true } (done + 1) (data ++ more))))
        ∧ (1 < left → j < k.lastIndex → (data ++ more).length + k.size t (j + 1) ≤ 1024 →
            exec i s = .next (t.withControl
              ({ t.control with exec := .items (j + 1) (left - 1) (done + 1) (fl.join fl') (data ++ more) } : Control).pump)))
    ∧ (s.asksIf q rest k.code → q.cond = 0 ∨ k.conditional = true →
        (q.body.length ≠ k.bodyLength → exec i s = .next (s.withControl (s.control.answer .badLength Flags.none 0 []).pump))
        ∧ (q.body.length = k.bodyLength → k.lastIndex < k.first q →
            exec i s = .next (s.withControl (s.control.answer .badIndex Flags.none 0 []).pump)))

/-! ### Requests on association records (R35 to R40, R83 to R86) -/

/-- R19, Table 2-2: the eight parameters of a record after OPEN-ASSOC or SET-ASSOC. A parameter that the record's direction does not use,
or whose marker is 0, keeps its value (a marker that is neither 0 nor 1: a free value, log 8); a number outside its range is clamped; a
yes/no value, hold policy or pad quantum outside its set is held. CLAMPED is set when an S of 0, an e outside 20 to 40 or a W above 1024 is
given to a record whose direction uses it, and HELD when a value outside its set is. R20, R37: SET-ASSOC of one record changes the parameters that its body
gives and nothing else of the record. Its outcome is OK, BAD-STATE for a record that is not OPENED, LIVE or EXHAUSTED, or COND-FALSE (with STATUS OK: log 35), and
the reply's flags are those. -/
def Obligations.SetAssocChangesParameters : Prop :=
  (∀ (d : Dir) (p : AssocParams) (b : Bytes), ∀ p' : AssocParams, p' = (applyAssocParams d p b).1 →
     let given (i : Nat) : Bool := byteAt b i == 1 || (byteAt b i != 0 && Config.strayMarker (byteAt b i))
     let yes (i : Nat) (prev : Bool) : Bool := if numAt b i 1 = 0 then false else if numAt b i 1 = 1 then true else prev
     p'.pinned = (if given 0 then yes 1 p.pinned else p.pinned)
     ∧ p'.autoRollover = (if d = .egress ∧ given 2 then yes 3 p.autoRollover else p.autoRollover)
     ∧ p'.holdPolicy = (if given 4 then (match numAt b 5 1 with | 0 => .hold | 1 => .discard | _ => p.holdPolicy) else p.holdPolicy)
     ∧ p'.expose = (if d = .egress ∧ given 6 then yes 7 p.expose else p.expose)
     ∧ p'.quantum = (if d = .egress ∧ given 8 ∧ numAt b 9 2 ∈ [0, 16, 64, 256] then numAt b 9 2 else p.quantum)
     ∧ p'.softPn = (if d = .egress ∧ given 11 then min 0xFFFFFFFF (max 1 (numAt b 12 4)) else p.softPn)
     ∧ p'.capExp = (if d = .egress ∧ given 16 then min 40 (max 20 (numAt b 17 1)) else p.capExp)
     ∧ p'.windowSize = (if d = .ingress ∧ given 18 then min 1024 (max 0 (numAt b 19 2)) else p.windowSize)
     ∧ ((applyAssocParams d p b).2.clamped = true ↔
         (d = .egress ∧ given 11 ∧ numAt b 12 4 = 0) ∨ (d = .egress ∧ given 16 ∧ (numAt b 17 1 < 20 ∨ 40 < numAt b 17 1))
         ∨ (d = .ingress ∧ given 18 ∧ 1024 < numAt b 19 2))
     ∧ ((applyAssocParams d p b).2.held = true ↔
         (given 0 ∧ 1 < numAt b 1 1) ∨ (d = .egress ∧ given 2 ∧ 1 < numAt b 3 1) ∨ (given 4 ∧ 1 < numAt b 5 1)
         ∨ (d = .egress ∧ given 6 ∧ 1 < numAt b 7 1) ∨ (d = .egress ∧ given 8 ∧ numAt b 9 2 ∉ [0, 16, 64, 256]))
     ∧ (applyAssocParams d p b).2.repeatIgnored = false)
  ∧ (∀ (s : State) (q : Request) (rest : List Request) (a : AssocId) (s1 : State), s.asksIf q rest 0x31 → q.repeatCount = 0 →
     q.body.length = 23 → a.val = numAt q.body 0 2 → s1 = s.afterTest a q.cond →
     exec .setAssoc s = .next
       (if (s.record a).meets q.cond q.carg = false then
         s1.withControl (s.control.repliedItems Flags.none 1 [Status.condFalse.code])
        else if (s.record a).state = .opened ∨ (s.record a).state = .live ∨ (s.record a).state = .exhausted then
         (s1.setRecord a { s1.record a with
             params := (applyAssocParams (s.record a).dir (s.record a).params (q.body.drop 2)).1 }).withControl
           (s.control.repliedItems (applyAssocParams (s.record a).dir (s.record a).params (q.body.drop 2)).2 1 [Status.ok.code])
        else s1.withControl (s.control.repliedItems Flags.none 1 [Status.badState.code])))

/-- R35, R36: OPEN-ASSOC. Its checks in order: the index, the condition, the fields, a purge's unprocessed range, the state. A record that
passes becomes OPENED with its generation advanced, the parameters of the body over the defaults, its counts 0 and no key; the reply is OK
with the new generation. -/
def Obligations.OpenAssocOpensARecord : Prop :=
  ∀ (s : State) (q : Request) (rest : List Request), s.asksIf q rest 0x30 → q.body.length = 27 →
    (2047 < numAt q.body 0 2 → exec .openAssoc s = .next (s.withControl (s.control.replied q .badIndex Flags.none [])))
    ∧ ∀ (a : AssocId) (s1 : State), a.val = numAt q.body 0 2 → s1 = s.afterTest a q.cond →
      ((s.record a).meets q.cond q.carg = false →
        exec .openAssoc s = .next (s1.withControl (s.control.replied q .condFalse Flags.none [])))
      ∧ ((s.record a).meets q.cond q.carg = true →
        (1 < numAt q.body 2 1 ∨ 3 < numAt q.body 3 1 ∨ 2047 < numAt q.body 4 2 ∨ (numAt q.body 2 1 = 1 ∧ numAt q.body 4 2 ≠ a.val) →
          exec .openAssoc s = .next (s1.withControl (s.control.replied q .badField Flags.none [])))
        ∧ ∀ (d : Dir) (n : LinkId), dirCode d = byteAt q.body 2 → n.val = numAt q.body 3 1 → numAt q.body 4 2 ≤ 2047 →
          (d = .ingress → numAt q.body 4 2 = a.val) →
          exec .openAssoc s = .next
            (if s.bank.inPurge a then s1.withControl (s.control.replied q .inPurge Flags.none [])
             else if (s.record a).state ≠ .empty then s1.withControl (s.control.replied q .badState Flags.none [])
             else (s1.setRecord a
                { state := .opened, dir := d, link := n, channel := numAt q.body 4 2, generation := ((s.record a).generation + 1) % 256,
                  params := (applyAssocParams d AssocParams.default (q.body.drop 6)).1, wanted := false, frames := 0, tagFails := 0,
                  cur := none, nxt := none, old := none }).withControl
              (s.control.replied q .ok (applyAssocParams d AssocParams.default (q.body.drop 6)).2
                (u8 (((s.record a).generation + 1) % 256)))))

/-- R28, R38: READ-ASSOC of one record answers OK with 128 bytes: what Table 2-1 lists, its parameters, and for each slot the key's state,
phase, check value, next PN, blocks, markers, count and window; nothing is changed, and no key, hash key or salt is in it. The layout is
the model's reading (log 9), the unit of the grace time and the number for a stopped grace timer free values (log 7). R39: TEST-ASSOC of one record answers OK with its 4 bytes:
OK when the condition is true and COND-FALSE when it is false, the record's state, its generation, and the CUR key's soft flag as it was
found. It changes nothing but that IF-SOFT clears that flag, so that the next IF-SOFT finds it clear; ALWAYS gives OK. As a conditional
repeatable request it follows GeneralChecksRefuse and RepeatsDoTheirItemsInOrder. -/
def Obligations.RecordsAreReadAndTested : Prop :=
  ((∀ (s : State) (q : Request) (rest : List Request) (a : AssocId), s.asks q rest 0x32 → q.repeatCount = 0 → q.body = u16 a.val →
     exec .readAssoc s = .next (s.withControl (s.control.repliedItems Flags.none 1
       (u16 a.val ++ [(s.record a).state.code, dirCode (s.record a).dir] ++ u8 (s.record a).link.val ++ u16 (s.record a).channel
         ++ u8 (s.record a).generation
         ++ (yesNo (s.record a).params.pinned ++ yesNo (s.record a).params.autoRollover ++ [(s.record a).params.holdPolicy.code]
           ++ yesNo (s.record a).params.expose ++ u16 (s.record a).params.quantum ++ u32 (s.record a).params.softPn
           ++ u8 (s.record a).params.capExp ++ u16 (s.record a).params.windowSize)
         ++ yesNo (s.record a).wanted ++ u48 (s.record a).frames ++ u48 (s.record a).tagFails
         ++ slotReport (s.record a).cur ++ slotReport (s.record a).nxt ++ slotReport (s.record a).old
         ++ u32 (graceLeft (s.record a).old s.now)
         ++ zeros (128 - 38 - (slotReport (s.record a).cur ++ slotReport (s.record a).nxt ++ slotReport (s.record a).old).length)))))
   ∧ ∀ (k : Key) (material hashKey salt : Bytes),
       slotReport (some { k with material := material, hashKey := hashKey, salt := salt }) = slotReport (some k))
  ∧ (∀ (s : State) (q : Request) (rest : List Request) (a : AssocId), s.asksIf q rest 0x33 → q.repeatCount = 0 → q.body = u16 a.val →
     exec .testAssoc s = .next ((s.afterTest a q.cond).withControl (s.control.repliedItems Flags.none 1
       ([if (s.record a).meets q.cond q.carg then Status.ok.code else Status.condFalse.code, (s.record a).state.code]
         ++ u8 (s.record a).generation ++ yesNo (s.record a).softFlag)))
     ∧ (q.cond = 0 → (s.record a).meets q.cond q.carg = true ∧ s.afterTest a q.cond = s)
     ∧ (q.cond = 5 → ((s.afterTest a q.cond).record a).softFlag = false))

/-- R67, R68, R80: at the release of a hold the HELD entries of the record become WAITING in queue order under the new key, with
consecutive packet numbers from its next one, each charged and counted in flight; no other entry is changed, and at most one SOFT-LIMIT
notice comes of it. -/
def Obligations.HeldEntriesAreReleasedInOrder : Prop :=
  ∀ (a : AssocId) (r : Record) (q : List Entry) (k : Key), k.state = .inUse → 1 ≤ k.n →
    k.n + (q.filter (Entry.isHeldOf a)).length ≤ 0xFFFFFFFF →
    ∀ (q' : List Entry) (k' : Key) (notes : List Notice) (count : Nat), releaseHeld a r q k = (q', k', notes, count) →
      q'.length = q.length
      ∧ (∀ (i : Nat) (h : i < q.length) (h' : i < q'.length),
          q'[i] = if q[i].isHeldOf a then
              { q[i] with state := .waiting, pn := some (k.n + ((q.take i).filter (Entry.isHeldOf a)).length), key := some k.phase }
            else q[i])
      ∧ count = (q.filter (Entry.isHeldOf a)).length
      ∧ k'.n = k.n + count ∧ k'.inFlight = k.inFlight + count ∧ k'.state = .inUse ∧ k'.phase = k.phase ∧ k'.material = k.material
      ∧ k'.u = k.u + ((q.filter (Entry.isHeldOf a)).map fun e => e.env.charge).sum
      ∧ notes.length ≤ 1 ∧ (k.crossed = true → notes = [])

/-- R71, R72, R80, R83: ROLLOVER of an egress record with NXT READY and OLD ABSENT makes the rollover at once: CUR goes to OLD as
RETIRING, or is destroyed when nothing of it is in flight; NXT goes into service with n = 1 and U = 0; the generation advances; the held
entries are released; one ROLLED-OVER notice with cause REQUEST is queued, and the reply is OK with the generation and the new CUR's phase
and check value. The refusals are BAD-INDEX, COND-FALSE, BAD-STATE and RETIRING-BUSY. -/
def Obligations.RolloverRequestRollsOver : Prop :=
  ∀ (s : State) (q : Request) (rest : List Request), s.asksIf q rest 0x35 → q.body.length = 2 →
    (2047 < numAt q.body 0 2 → exec .rollover s = .next (s.withControl (s.control.replied q .badIndex Flags.none [])))
    ∧ ∀ (a : AssocId) (s1 : State) (r : Record), a.val = numAt q.body 0 2 → s1 = s.afterTest a q.cond → r = s1.record a →
      ((s.record a).meets q.cond q.carg = false →
        exec .rollover s = .next (s1.withControl (s.control.replied q .condFalse Flags.none [])))
      ∧ ((s.record a).meets q.cond q.carg = true →
        ((r.state ≠ .live ∧ r.state ≠ .exhausted) ∨ r.dir = .ingress ∨ (∀ k, r.nxt = some k → k.state ≠ .ready) →
          exec .rollover s = .next (s1.withControl (s.control.replied q .badState Flags.none [])))
        ∧ ∀ (c k : Key), (r.state = .live ∨ r.state = .exhausted) → r.dir = .egress → r.cur = some c → r.nxt = some k → k.state = .ready →
          (r.old ≠ none → exec .rollover s = .next (s1.withControl (s.control.replied q .retiringBusy Flags.none [])))
          ∧ (r.old = none → ∀ (r1 : Record) (queue : List Entry) (k1 : Key) (notes : List Notice) (count : Nat),
              r1 = { r with cur := some { k with state := .inUse, n := 1, u := 0, soft := false, crossed := false }, nxt := none,
                            old := if c.inFlight = 0 then none else some { c with state := .retiring },
                            generation := (r.generation + 1) % 256, state := .live, wanted := false } →
              releaseHeld a r1 (s.path .egress r.link).queue { k with state := .inUse, n := 1, u := 0, soft := false, crossed := false }
                = (queue, k1, notes, count) →
              exec .rollover s = .next (((s1.setRecord a { r1 with cur := some k1 }).setQueue .egress r.link queue).withControl
                (((notes.foldl Control.notify s.control).notify (.rolledOver a .egress r.link r1.generation k.phase k.check c.phase count
                    .request)).replied q .ok Flags.none (u8 r1.generation ++ u8 k.phase.val ++ k.check)))))

/-- R24, R85, R86, R87, R113: RETIRE of one record that is OPENED, LIVE or EXHAUSTED: its held entries are dropped in place with RETIRED,
counted, and their cells freed; with nothing in flight the record is emptied in the same change, its generation kept, with one RETIRED
notice; otherwise it becomes DRAINING with no rollover wanted and no grace timer running. Then the heads of its queue settle and the reply
is composed. A record in another state is left with BAD-STATE, and a false condition gives COND-FALSE (with STATUS OK: log 35). R24, R40:
RELEASE of one record empties a BARRED one, keeping its generation, with outcome OK; a record in any other state has the outcome BAD-STATE
and is left. -/
def Obligations.RetireAndRelease : Prop :=
  (∀ (s : State) (q : Request) (rest : List Request) (a : AssocId) (s1 : State) (r : Record), s.asksIf q rest 0x36 → q.repeatCount = 0 →
     q.body = u16 a.val → s1 = s.afterTest a q.cond → r = s1.record a →
     ((s.record a).meets q.cond q.carg = false →
       exec .retire s = .next (s1.withControl (s.control.repliedItems Flags.none 1 [Status.condFalse.code])))
     ∧ ((s.record a).meets q.cond q.carg = true → r.state ≠ .opened → r.state ≠ .live → r.state ≠ .exhausted →
       exec .retire s = .next (s1.withControl (s.control.repliedItems Flags.none 1 [Status.badState.code])))
     ∧ ((s.record a).meets q.cond q.carg = true → (r.state = .opened ∨ r.state = .live ∨ r.state = .exhausted) →
       (∀ k, r.old = some k → k.state = .retiring → k.inFlight ≠ 0) → ∀ (p : Path) (s2 s3 : State), p = s.path r.dir r.link →
       s2 = s1.dropEntries r.dir r.link (Entry.isHeldOf a) .retired →
       s3 = s2.setRecord a { r with state := .draining, wanted := false, old := r.old.map fun k => { k with graceAt := none } } →
       ((s2.path r.dir r.link).queue = p.queue.map (fun e => if e.isHeldOf a then { e with state := .dropped .retired, cells := 0 } else e)
         ∧ (s2.path r.dir r.link).counters = p.counters.addDiscard .retired (p.queue.filter (Entry.isHeldOf a)).length
         ∧ (s2.path r.dir r.link).free = p.free + ((p.queue.filter (Entry.isHeldOf a)).map Entry.cells).sum
         ∧ (s2.path r.dir r.link).stored = p.stored ∧ s2.records = s1.records ∧ s2.control = s.control
         ∧ ∀ d n, (d, n) ≠ (r.dir, r.link) → s2.path d n = s.path d n)
       ∧ exec .retire s = .next
           ((((if slotInFlight r.cur + slotInFlight r.nxt + slotInFlight r.old = 0 then
                (s3.emptyRecord a .empty .retired).notify (.retired a r.dir r.link r.generation r.frames r.tagFails)
              else s3).settle r.dir r.link).answer .ok Flags.none 1 [Status.ok.code]).pump)
       ∧ ∀ t, exec .retire s = .next t →
         (∀ e ∈ (t.path r.dir r.link).queue, e.isHeldOf a = false)
         ∧ (r.dir = .egress ∨ (s.link r.link).rack.up = true →
             t.record a = (if slotInFlight r.cur + slotInFlight r.nxt + slotInFlight r.old = 0 then Record.blank r.generation
               else { r with state := .draining, wanted := false, old := r.old.map fun k => { k with graceAt := none } })
             ∧ (∀ a', a' ≠ a → t.record a' = s.record a')
             ∧ t.control = (if slotInFlight r.cur + slotInFlight r.nxt + slotInFlight r.old = 0
                 then s.control.notify (.retired a r.dir r.link r.generation r.frames r.tagFails)
                 else s.control).repliedItems Flags.none 1 [Status.ok.code])
         ∧ t.bank = s.bank ∧ t.rules = s.rules ∧ t.flow = s.flow ∧ t.lanes = s.lanes ∧ t.device = s.device ∧ t.prov = s.prov))
  ∧ (∀ (s : State) (q : Request) (rest : List Request) (a : AssocId), s.asks q rest 0x37 → q.repeatCount = 0 → q.body = u16 a.val →
     ((s.record a).state ≠ .barred →
       exec .release s = .next (s.withControl (s.control.repliedItems Flags.none 1 [Status.badState.code])))
     ∧ ((s.record a).state = .barred →
       exec .release s = .next
         (((s.setRecord a { Record.blank (s.record a).generation with state := .empty }).unname a).withControl
           (s.control.repliedItems Flags.none 1 [Status.ok.code]))))

/-! ### Installs (R45 to R50, R126) -/

/-- R45, R46: the checks of INSTALL-KEY in order: the length of its form, the index, the fields, the condition, the busy Store, a purge's
unprocessed range, the record's state and the target slot, the phase, the CLEAR form's permission, the KWK. Each refusal changes nothing
but what IF-SOFT clears. R28, R47, R48, R49: an INSTALL-KEY that its checks pass is taken: the target slot becomes LOADING with the phase
and nothing of the key, the unit holds the secret (a WRAPPED one to be unwrapped, a CLEAR one as key and salt), its bank is INSTALLING,
and the control unit waits: no reply yet and the request stays at the head. -/
def Obligations.InstallKeyIsTakenOrRefused : Prop :=
  (∀ (s : State) (q : Request) (rest : List Request), s.asksIf q rest 0x34 →
     let b := q.body
     let good : Prop := (byteAt b 4 = 0 ∧ b.length = 54) ∨ (byteAt b 4 = 1 ∧ b.length = 46)
       ∨ (byteAt b 4 ≠ 0 ∧ byteAt b 4 ≠ 1 ∧ (b.length = 54 ∨ b.length = 46))
     (¬good → exec .installKey s = .next (s.withControl (s.control.replied q .badLength Flags.none [])))
     ∧ (good → 2047 < numAt b 0 2 → exec .installKey s = .next (s.withControl (s.control.replied q .badIndex Flags.none [])))
     ∧ (good → numAt b 0 2 ≤ 2047 → (1 < (byteAt b 2).toNat ∨ 3 < (byteAt b 3).toNat ∨ 1 < (byteAt b 4).toNat) →
         exec .installKey s = .next (s.withControl (s.control.replied q .badField Flags.none [])))
     ∧ ∀ (a : AssocId) (toNxt clear : Bool) (p : Phase) (s1 : State) (r : Record), good → a.val = numAt b 0 2 →
         byteAt b 2 = (if toNxt then 1 else 0) → p.val = (byteAt b 3).toNat → byteAt b 4 = (if clear then 1 else 0) →
         s1 = s.afterTest a q.cond → r = s1.record a →
         ((s.record a).meets q.cond q.carg = false →
           exec .installKey s = .next (s1.withControl (s.control.replied q .condFalse Flags.none [])))
         ∧ ((s.record a).meets q.cond q.carg = true → ∀ why : Status,
             (if (∃ pu, s.bank.purge = some pu ∧ pu.active = true) ∨ s.bank.install ≠ none then why = .storeBusy
              else if s.bank.inPurge a = true then why = .inPurge
              else if (if toNxt then (r.state ≠ .live ∧ r.state ≠ .exhausted) ∨ r.nxt ≠ none else r.state ≠ .opened) then why = .badState
              else if r.cur.map Key.phase = some p ∨ r.old.map Key.phase = some p then why = .phaseInUse
              else if clear = true ∧ (s.device.wrapOnly = true ∨ s.prov.locked = true) then why = .clearRefused
              else clear = false ∧ s.prov.kwk = none ∧ why = .notProvisioned) →
             exec .installKey s = .next (s1.withControl (s.control.replied q why Flags.none []))))
  ∧ (∀ (s : State) (q : Request) (rest : List Request) (a : AssocId) (toNxt clear : Bool) (p : Phase) (secret : Bytes) (unused : Byte)
     (s1 : State) (r : Record),
     s.asksIf q rest 0x34 → secret.length = (if clear then 40 else 48) →
     q.body = u16 a.val ++ yesNo toNxt ++ u8 p.val ++ yesNo clear ++ [unused] ++ secret →
     s1 = s.afterTest a q.cond → r = s1.record a → (s.record a).meets q.cond q.carg = true →
     (∀ pu, s.bank.purge = some pu → pu.active = false ∧ pu.covers a = false) → s.bank.install = none →
     (if toNxt then (r.state = .live ∨ r.state = .exhausted) ∧ r.nxt = none else r.state = .opened) →
     (∀ k, r.cur = some k ∨ r.old = some k → k.phase ≠ p) →
     (if clear then s.device.wrapOnly = false ∧ s.prov.locked = false else s.prov.kwk ≠ none) →
     ∀ stage : InstallStage,
       stage = (if clear then .expanding (secret.take 32) (secret.drop 32) else .unwrapping (secret.take 8) (secret.drop 8)) →
     ∃ t : State, exec .installKey s = .next t
       ∧ t = ((s1.setRecord a (if toNxt then { r with nxt := some (loadingKey p) } else { r with cur := some (loadingKey p) })).withBank
           { s.bank with install := some { index := a, toNxt := toNxt, phase := p, stage := stage } }).withControl
           ({ s.control with exec := .installing } : Control).pump
       ∧ t.bank.stateOf (bankOf a) = .installing ∧ t.bank.ready = false)

/-- R48: at the end of the unwrap a secret that passes its integrity check goes on to its expansion, and nothing else is changed; one that
fails leaves the slot ABSENT, ends the install with UNWRAP-FAILED as its last result, and the request is answered UNWRAP-FAILED. Without a
wrapped secret in the unit the command has nothing to do (log 2). R48: the 40 bytes of the candidate are the secret after its integrity
value, combined with the encryption under the KWK of three counter blocks (the integrity value, seven zero bytes and 1, 2, 3); the first
32 are the key and the last 8 the salt. The integrity value is recomputed by a chained encryption of the binding block (C5 3A, index,
phase, zeros), the candidate and 8 zero bytes, and its first 8 bytes must equal the one received. -/
def Obligations.UnwrapPassesOrFails : Prop :=
  (∀ (kwk integrity sealed : Bytes) (index phase : Nat) (enc : Bytes → Bytes) (candidate text c1 c2 c3 c4 : Bytes),
    enc = aesEncrypt kwk →
    candidate = xorBytes (enc (integrity ++ zeros 7 ++ [1]) ++ enc (integrity ++ zeros 7 ++ [2]) ++ enc (integrity ++ zeros 7 ++ [3])) sealed →
    text = candidate ++ zeros 8 → c1 = enc ([0xC5, 0x3A] ++ u16 index ++ u8 phase ++ zeros 11) →
    c2 = enc (xorBytes (slice text 0 16) c1) → c3 = enc (xorBytes (slice text 16 16) c2) → c4 = enc (xorBytes (slice text 32 16) c3) →
    unwrap kwk integrity sealed index phase
      = if c4.take 8 = integrity then some (candidate.take 32, candidate.drop 32) else none)
  ∧ ∀ s : State,
    ((∀ i integrity sealed, s.bank.install = some i → i.stage ≠ .unwrapping integrity sealed) → exec .unwrapDone s = .next s)
    ∧ ∀ (i : Install) (integrity sealed kwk check : Bytes), s.bank.install = some i → i.stage = .unwrapping integrity sealed →
      s.prov.kwk = some (kwk, check) →
      (∀ key salt, unwrap kwk integrity sealed i.index.val i.phase.val = some (key, salt) →
        exec .unwrapDone s = .next (s.withBank { s.bank with install := some { i with stage := .expanding key salt } }))
      ∧ (unwrap kwk integrity sealed i.index.val i.phase.val = none → ∀ q rest, s.control.requests = q :: rest →
        exec .unwrapDone s = .next
          (((s.setRecord i.index (if i.toNxt then { s.record i.index with nxt := none } else { s.record i.index with cur := none })).withBank
            { s.bank with install := none, lastInstall := some (.unwrapFailed, i.index) }).withControl
              (s.control.replied q .unwrapFailed Flags.none [])))

/-- R27, R28, R49, R50: an install into CUR of an OPENED record completes: the slot is IN-USE with the key, its hash key (the cipher of
zeros), its salt, its check value (three bytes of the cipher of 0x5C), n = 1, U = 0, no flag, nothing in flight, and on ingress an empty
window of the record's W; the record is LIVE, the install ends with OK, and the reply gives index, target, phase and check value. R50,
R71, R72, R73: an install into NXT of an egress record completes: the slot is READY with the same key, and a rollover that waited is made,
with its held entries released and its notice, when OLD is ABSENT. R50, R126, R135, R136: an install into NXT of an ingress record
completes: the held envelopes of the key's phase whose packet numbers are not 0 are entered under it in place and counted in flight, and
the others are dropped in place and counted, with UNKNOWN-PHASE or BAD-PN; a rollover that waited is made when OLD is ABSENT. Then the
reply, as for CUR. -/
def Obligations.InstallsComplete : Prop :=
  ∀ (s : State) (i : Install) (key salt check : Bytes) (r : Record) (k : Key) (s1 : State) (n : LinkId) (times : Nat),
    s.bank.install = some i → i.stage = .expanding key salt → r = s.record i.index → n = r.link →
    check = (aesEncrypt key (List.replicate 16 0x5C)).take 3 →
    k = { state := if i.toNxt then .ready else .inUse, phase := i.phase, material := key, hashKey := aesEncrypt key (zeros 16),
          salt := salt, check := check, n := 1, u := 0, soft := false, crossed := false, tagFailed := false, inFlight := 0,
          window := Window.empty (if r.dir = .ingress then r.params.windowSize else 0), graceAt := none } →
    s1 = (s.setRecord i.index (if i.toNxt then { r with nxt := some k } else { r with state := .live, cur := some k })).withBank
      { s.bank with install := none, lastInstall := some (.ok, i.index) } →
    times = (s.params n).graceInterval * 100000000 →
    let replied (t : State) : State :=
      t.answerOnce .ok Flags.none (u16 i.index.val ++ [if i.toNxt then 1 else 0] ++ u8 i.phase.val ++ check)
    let waits : Prop := r.wanted = true ∧ r.old = none ∧ (r.state = .live ∨ r.state = .exhausted)
    (i.toNxt = false → exec .installComplete s = .next ((replied s1).finish r.dir n))
    ∧ (i.toNxt = true → r.dir = .egress → (¬waits ∨ r.cur = none → exec .installComplete s = .next ((replied s1).finish .egress n))
        ∧ ∀ (c : Key) (r1 : Record) (queue : List Entry) (k1 : Key) (notes : List Notice) (count : Nat), waits → r.cur = some c →
          r1 = { r with cur := some { k with state := .inUse }, nxt := none,
                        old := if c.inFlight = 0 then none else some { c with state := .retiring },
                        generation := (r.generation + 1) % 256, state := .live, wanted := false } →
          releaseHeld i.index r1 (s.path .egress n).queue { k with state := .inUse } = (queue, k1, notes, count) →
          exec .installComplete s = .next ((replied
            (((s1.setRecord i.index { r1 with cur := some k1 }).setQueue .egress n queue).withControl
              ((notes.foldl Control.notify s.control).notify
                (.rolledOver i.index .egress n r1.generation i.phase check c.phase count .limit)))).finish .egress n))
    ∧ (i.toNxt = true → r.dir = .ingress → (∀ c, r.cur = some c ∨ r.old = some c → c.phase ≠ i.phase) →
        ∃ s2 : State, s2.pending = s.pending ∧ s2.bank = s1.bank ∧ s2.control = s.control ∧ s2.now = s.now ∧ s2.lanes = s.lanes
          ∧ s2.lastGrant = s.lastGrant ∧ s2.rules = s.rules ∧ s2.flow = s.flow ∧ s2.device = s.device ∧ s2.prov = s.prov
          ∧ (∀ d m, (d, m) ≠ (.ingress, n) → s2.path d m = s.path d m)
          ∧ ∀ (p : Path) (entered badPhase badPn : Entry → Bool) (count : Nat), p = s.path .ingress n →
            entered = (fun e => e.isHeldOf i.index && e.phase == i.phase && e.pn.getD 0 != 0) →
            badPhase = (fun e => e.isHeldOf i.index && e.phase != i.phase) →
            badPn = (fun e => e.isHeldOf i.index && e.phase == i.phase && e.pn.getD 0 == 0) → count = p.queue.countP entered →
            (s2.path .ingress n).queue = p.queue.map (fun e =>
                if entered e then { e with state := .waiting, key := some i.phase }
                else if badPhase e then { e with state := .dropped .unknownPhase, cells := 0 }
                else if badPn e then { e with state := .dropped .badPn, cells := 0 }
                else e)
            ∧ (s2.path .ingress n).free
                = p.free + ((p.queue.filter badPhase).map Entry.cells).sum + ((p.queue.filter badPn).map Entry.cells).sum
            ∧ (s2.path .ingress n).counters.discard .unknownPhase
                = min (2 ^ 48 - 1) (p.counters.discard .unknownPhase + p.queue.countP badPhase)
            ∧ (s2.path .ingress n).counters.discard .badPn = min (2 ^ 48 - 1) (p.counters.discard .badPn + p.queue.countP badPn)
            ∧ s2.record i.index = { r with nxt := some { k with inFlight := count } }
            ∧ (∀ a, a ≠ i.index → s2.record a = s.record a)
            ∧ (¬waits ∨ r.cur = none → exec .installComplete s = .next ((replied s2).finish .ingress n))
            ∧ ∀ c, waits → r.cur = some c → exec .installComplete s = .next ((replied
                ((s2.setRecord i.index { r with
                    cur := some { k with state := .inUse, inFlight := count }
                    nxt := none
                    old := some { c with state := .grace, graceAt := some (s.now + times) }
                    generation := (r.generation + 1) % 256
                    wanted := false }).notify
                  (.rolledOver i.index .ingress n ((r.generation + 1) % 256) i.phase check c.phase 0 .peer))).finish .ingress n))

/-! ### Purges (R52 to R62) -/

/-- R52: PURGE of a range of a bank is taken when no purge exists and no install is in progress: the purge is ACTIVE at its first slot
with both counts 0, its end clamped to slot 511 (and flagged), and the reply is STARTED. A bank, option, first slot or count outside its
set is refused with BAD-FIELD, a busy Store with STORE-BUSY. -/
def Obligations.PurgeStarts : Prop :=
  ∀ (s : State) (q : Request) (rest : List Request), s.asks q rest 0x40 → q.body.length = 7 →
    (3 < numAt q.body 0 1 ∨ 511 < numAt q.body 1 2 ∨ numAt q.body 3 2 = 0 ∨ 1 < numAt q.body 5 1 ∨ 1 < numAt q.body 6 1 →
      exec .purge s = .next (s.withControl (s.control.replied q .badField Flags.none [])))
    ∧ ∀ (b : BankId) (first count : Nat) (skip barred : Bool),
      b.val = numAt q.body 0 1 → first = numAt q.body 1 2 → count = numAt q.body 3 2 → first ≤ 511 → 1 ≤ count →
      byteAt q.body 5 = (if skip then 1 else 0) → byteAt q.body 6 = (if barred then 1 else 0) →
      ∀ p : Purge, p = { bank := b, first := first, last := min 511 (first + count - 1), skipPinned := skip, barred := barred,
                         active := true, cursor := first, purged := 0, skipped := 0, visiting := false } →
      exec .purge s = .next
        (if s.bank.purge ≠ none ∨ s.bank.install ≠ none then s.withControl (s.control.replied q .storeBusy Flags.none [])
         else (s.withBank { s.bank with stop := .none, purge := some p }).withControl
            (s.control.replied q .started { Flags.none with clamped := decide (511 < first + count - 1) } []))

/-- R57, R58, R59: PURGE-SUSPEND, PURGE-RESUME and PURGE-CANCEL. Between records they act at once with OK: the purge is SUSPENDED, ACTIVE
again, or removed with a PURGE-DONE notice and last result CANCELLED. While a record drains, SUSPEND and CANCEL of an active purge wait
for the record boundary, and the control unit with them. Each is refused with BAD-STATE where its rule says so. Acting at once between
records, and before the first visit of a purge too, is the model's choice (log 13). -/
def Obligations.PurgeControlRequests : Prop :=
  ∀ (s : State) (q : Request) (rest : List Request), q.body = [] →
    (s.asks q rest 0x41 →
      ((∀ p, s.bank.purge = some p → p.active = false) →
        exec .purgeSuspend s = .next (s.withControl (s.control.replied q .badState Flags.none [])))
      ∧ ∀ p, s.bank.purge = some p → p.active = true →
        (p.visiting = false → exec .purgeSuspend s = .next
          ((s.withBank { s.bank with purge := some { p with active := false } }).withControl (s.control.replied q .ok Flags.none [])))
        ∧ (p.visiting = true → s.bank.stop = .none → exec .purgeSuspend s = .next
          ((s.withBank { s.bank with stop := .suspend }).withControl ({ s.control with exec := .awaitingBoundary } : Control).pump)))
    ∧ (s.asks q rest 0x42 →
      ((∀ p, s.bank.purge = some p → p.active = true) →
        exec .purgeResume s = .next (s.withControl (s.control.replied q .badState Flags.none [])))
      ∧ ∀ p, s.bank.purge = some p → p.active = false →
        (s.bank.install ≠ none → exec .purgeResume s = .next (s.withControl (s.control.replied q .storeBusy Flags.none [])))
        ∧ (s.bank.install = none → exec .purgeResume s = .next
          ((s.withBank { s.bank with purge := some { p with active := true } }).withControl (s.control.replied q .ok Flags.none []))))
    ∧ (s.asks q rest 0x43 →
      (s.bank.purge = none → exec .purgeCancel s = .next (s.withControl (s.control.replied q .badState Flags.none [])))
      ∧ ∀ p, s.bank.purge = some p →
        (p.visiting = false → exec .purgeCancel s = .next
          ((s.withBank { s.bank with purge := none, stop := .none, lastPurge := .cancelled }).withControl
            ((s.control.notify (.purgeDone true p)).replied q .ok Flags.none [])))
        ∧ (p.visiting = true → exec .purgeCancel s = .next
          ((s.withBank { s.bank with stop := .cancel }).withControl ({ s.control with exec := .awaitingBoundary } : Control).pump)))

/-- R53, R56: the visit of an ACTIVE purge passes over a record that is EMPTY or BARRED, or pinned when pinned records are skipped (and
counts it): with no stop pending the cursor advances, and past the last slot the purge ends with DONE and its notice. No record is
changed. A purge that is not ACTIVE, or whose record drains, is not visited, and without a purge there is none: the command then changes
nothing (log 2). R54, R55, R113, R133: the visit of a record that is not passed over takes it: its held entries are dropped in place with
PURGED, counted, and their cells freed; no rollover is wanted, its grace timer stops, and it is PURGING while something of it is in flight;
with nothing in flight it is emptied (or BARRED) in the same change, its generation kept and the purged count raised, and the cursor
advances as before. -/
def Obligations.PurgeVisitsARecord : Prop :=
  (∀ s : State, (∀ p, s.bank.purge = some p → p.active = false ∨ p.visiting = true) → exec .purgeVisit s = .next s)
  ∧ (∀ (s : State) (p : Purge) (r : Record), s.bank.purge = some p → r = s.record (bankSlot p.bank p.cursor) →
     (p.active = true → p.visiting = false → s.bank.stop = .none →
         (r.state = .empty ∨ r.state = .barred ∨ (r.params.pinned = true ∧ p.skipPinned = true)) →
         ∀ p' : Purge, p' = { p with cursor := p.cursor + 1,
                                     skipped := if r.state = .empty ∨ r.state = .barred then p.skipped else p.skipped + 1 } →
         exec .purgeVisit s = .next
           (if p.cursor < p.last then (s.withBank { s.bank with purge := some p' }).withControl s.control.pump
            else (s.withBank { s.bank with purge := none, stop := .none, lastPurge := .done }).withControl
             (s.control.notify (.purgeDone false p')).pump)))
  ∧ (∀ (s : State) (p : Purge) (a : AssocId) (r : Record), s.bank.purge = some p → p.active = true → p.visiting = false →
     s.bank.stop = .none → a = bankSlot p.bank p.cursor → r = s.record a → r.state ≠ .empty → r.state ≠ .barred →
     ¬(r.params.pinned = true ∧ p.skipPinned = true) → (∀ k, r.old = some k → k.state = .retiring → k.inFlight ≠ 0) →
     ∀ (b : Path) (s2 s3 s4 : State) (p' : Purge), b = s.path r.dir r.link →
     s2 = s.dropEntries r.dir r.link (Entry.isHeldOf a) .purged →
     s3 = (s2.setRecord a { r with state := .purging, wanted := false, old := r.old.map fun k => { k with graceAt := none } }).withBank
       { s.bank with purge := some { p with visiting := true } } →
     s4 = s3.emptyRecord a (if p.barred then .barred else .empty) .purged → p' = { p with cursor := p.cursor + 1, purged := p.purged + 1 } →
     ((s2.path r.dir r.link).queue = b.queue.map (fun e => if e.isHeldOf a then { e with state := .dropped .purged, cells := 0 } else e)
       ∧ (s2.path r.dir r.link).counters = b.counters.addDiscard .purged (b.queue.filter (Entry.isHeldOf a)).length
       ∧ (s2.path r.dir r.link).free = b.free + ((b.queue.filter (Entry.isHeldOf a)).map Entry.cells).sum
       ∧ (s2.path r.dir r.link).stored = b.stored ∧ s2.records = s.records ∧ s2.control = s.control
       ∧ ∀ d n, (d, n) ≠ (r.dir, r.link) → s2.path d n = s.path d n)
     ∧ exec .purgeVisit s = .next
         ((if slotInFlight r.cur + slotInFlight r.nxt + slotInFlight r.old ≠ 0 then s3
           else if p.cursor < p.last then s4.withBank { s.bank with purge := some p' }
           else (s4.withBank { s.bank with purge := none, stop := .none, lastPurge := .done }).notify (.purgeDone false p')).finish
             r.dir r.link)
     ∧ ∀ t, exec .purgeVisit s = .next t →
       (∀ e ∈ (t.path r.dir r.link).queue, e.isHeldOf a = false)
       ∧ (r.dir = .egress ∨ (s.link r.link).rack.up = true →
           (∀ a', a' ≠ a → t.record a' = s.record a')
           ∧ (slotInFlight r.cur + slotInFlight r.nxt + slotInFlight r.old ≠ 0 →
               t.record a = { r with state := .purging, wanted := false, old := r.old.map fun k => { k with graceAt := none } }
               ∧ t.bank = { s.bank with purge := some { p with visiting := true } } ∧ t.control = s.control.pump)
           ∧ (slotInFlight r.cur + slotInFlight r.nxt + slotInFlight r.old = 0 →
               t.record a = { Record.blank r.generation with state := if p.barred then .barred else .empty }
               ∧ t.bank = (if p.cursor < p.last then { s.bank with purge := some p' }
                   else { s.bank with purge := none, stop := .none, lastPurge := .done })
               ∧ t.control = (if p.cursor < p.last then s.control else s.control.notify (.purgeDone false p')).pump)))

/-- R55, R57, R59: once nothing of the purged record is in flight it is emptied (or BARRED), the purged count rises and the visit ends at
a record boundary, where a pending SUSPEND or CANCEL takes effect and is answered. -/
def Obligations.PurgedRecordIsFinished : Prop :=
  ∀ (s : State) (p : Purge) (a : AssocId) (r : Record), s.bank.purge = some p → p.visiting = true → a = bankSlot p.bank p.cursor →
    r = s.record a → r.state = .purging → slotInFlight r.cur + slotInFlight r.nxt + slotInFlight r.old = 0 →
    (s.link r.link).rack.up = true →
    ∀ p' : Purge, p' = { p with cursor := p.cursor + 1, purged := p.purged + 1, visiting := false } →
    ∃ t : State, exec .purgeRecordFinished s = .next t
      ∧ t.record a = { Record.blank r.generation with state := if p.barred then .barred else .empty }
      ∧ (∀ a', a' ≠ a → t.record a' = s.record a') ∧ (∀ d n, ∀ e ∈ (t.path d n).queue, e.assoc ≠ some a)
      ∧ (s.bank.stop = .none → p.cursor < p.last →
          t.bank = { s.bank with purge := some p' } ∧ t.control = s.control.pump)
      ∧ (s.bank.stop = .none → p.last ≤ p.cursor →
          t.bank = { s.bank with purge := none, lastPurge := .done } ∧ t.control = (s.control.notify (.purgeDone false p')).pump)
      ∧ (∀ q rest, s.control.requests = q :: rest → s.bank.stop = .suspend → p.cursor < p.last →
          t.bank = { s.bank with purge := some { p' with active := false }, stop := .none }
          ∧ t.control = s.control.replied q .ok Flags.none [])
      ∧ (∀ q rest, s.control.requests = q :: rest → s.bank.stop = .suspend → p.last ≤ p.cursor →
          t.bank = { s.bank with purge := none, stop := .none, lastPurge := .done }
          ∧ t.control = (s.control.notify (.purgeDone false p')).replied q .badState Flags.none [])
      ∧ (∀ q rest, s.control.requests = q :: rest → s.bank.stop = .cancel →
          t.bank = { s.bank with purge := none, stop := .none, lastPurge := .cancelled }
          ∧ t.control = (s.control.notify (.purgeDone true p')).replied q .ok Flags.none [])

/-- R42 to R44: STORE-STATUS answers OK with the readiness, the operating bank, the four bank states, the purge and the last results, and
changes nothing else; a bank state follows from the install and the purge. The codes for no bank and no result are free values (log 7),
and that a report without a purge leaves the purge's fields out is the model's reading (log 23). -/
def Obligations.StoreStatusReports : Prop :=
  (∀ (s : State) (q : Request) (rest : List Request), s.asks q rest 0x44 → q.body = [] →
    exec .storeStatus s = .next (s.withControl (s.control.replied q .ok Flags.none s.bank.report)))
  ∧ (∀ (u : BankUnit) (b : BankId),
      (u.stateOf b = .installing ↔ ∃ i, u.install = some i ∧ i.index.val / 512 = b.val)
      ∧ (u.stateOf b = .purging ↔ (¬∃ i, u.install = some i ∧ i.index.val / 512 = b.val)
          ∧ ∃ p, u.purge = some p ∧ p.bank = b ∧ p.active = true)
      ∧ (u.stateOf b = .purgeSuspended ↔ (¬∃ i, u.install = some i ∧ i.index.val / 512 = b.val)
          ∧ ∃ p, u.purge = some p ∧ p.bank = b ∧ p.active = false)
      ∧ (u.ready = true ↔ u.install = none ∧ ∀ p, u.purge = some p → p.active = false))
  ∧ (∀ u : BankUnit, u.install = none → u.purge = none →
      u.report = [1, Config.noBank, 0, 0, 0, 0, 0, u.lastPurge.code]
        ++ (match u.lastInstall with | some (st, a) => st.code :: u16 a.val | none => [Config.noInstall, 0xFF, 0xFF]))
  ∧ ∀ (u : BankUnit) (p : Purge), u.install = none → u.purge = some p →
      u.report = (if p.active then [0, BitVec.ofNat 8 p.bank.val] else [1, Config.noBank])
        ++ ((List.finRange 4).map fun b => if b = p.bank then (if p.active then 2 else 3) else 0)
        ++ [if p.active then 1 else 2] ++ u8 p.bank.val ++ u16 p.first ++ u16 p.last ++ yesNo p.skipPinned
        ++ yesNo p.barred ++ u16 p.cursor ++ u16 p.purged ++ u16 p.skipped ++ [u.lastPurge.code]
        ++ (match u.lastInstall with | some (st, a) => st.code :: u16 a.val | none => [Config.noInstall, 0xFF, 0xFF])

/-! ### Provisioning, resets and start-up (R174 to R178, R183) -/

/-- R176, R177, R178: PROVISION-WRITE takes a KWK of 32 bytes or a label of 1 to 64 bytes once each, and PROVISION-LOCK locks the area
when its body is the KWK's check value; each refusal is by name. A field is written, and its request answered, when programming ends; a
RESET that waited for that (log 17) then takes effect, and leaves every lane out of service (FAILED) until the self-test, the model's
reading (log 19). PROGRAMMING_COMPLETE changes nothing while nothing is being programmed (log 2). Once the area is locked, no command
changes it. -/
def Obligations.ProvisioningIsWrittenOnce : Prop :=
  (∀ (s : State) (q : Request) (rest : List Request), s.asks q rest 0x50 → q.body.length = 66 → ∀ sel len : Nat,
    sel = numAt q.body 0 1 → len = numAt q.body 1 1 →
    (1 < sel ∨ (sel = 0 ∧ len ≠ 32) ∨ (sel = 1 ∧ (len = 0 ∨ 64 < len)) →
      exec .provisionWrite s = .next (s.withControl (s.control.replied q .badField Flags.none [])))
    ∧ ∀ (f : Programming) (written : Bool),
      (sel = 0 ∧ len = 32 ∧ f = .kwk (slice q.body 2 32) ∧ written = s.prov.kwk.isSome)
        ∨ (sel = 1 ∧ 1 ≤ len ∧ len ≤ 64 ∧ f = .label (slice q.body 2 len) ∧ written = s.prov.label.isSome) →
      exec .provisionWrite s = .next
        (if s.prov.locked then s.withControl (s.control.replied q .locked Flags.none [])
         else if written then s.withControl (s.control.replied q .alreadyWritten Flags.none [])
         else (s.withProv { s.prov with programming := some f }).withControl ({ s.control with exec := .programming } : Control).pump))
  ∧ (∀ (s : State) (q : Request) (rest : List Request), s.asks q rest 0x51 → q.body.length = 3 →
      (s.prov.locked = true → exec .provisionLock s = .next (s.withControl (s.control.replied q .locked Flags.none [])))
      ∧ (s.prov.locked = false → s.prov.kwk = none →
          exec .provisionLock s = .next (s.withControl (s.control.replied q .notProvisioned Flags.none [])))
      ∧ ∀ key check, s.prov.locked = false → s.prov.kwk = some (key, check) →
          exec .provisionLock s = .next
            (if q.body = check then
              (s.withProv { s.prov with programming := some .lock }).withControl ({ s.control with exec := .programming } : Control).pump
             else s.withControl (s.control.replied q .badField Flags.none [])))
  ∧ (∀ (s : State), (s.prov.programming = none → exec .programmingComplete s = .next s)
      ∧ ∀ (q : Request) (rest : List Request) (p' : Provisioning) (body : Bytes), s.control.requests = q :: rest →
        (∃ key, s.prov.programming = some (.kwk key) ∧ body = (aesEncrypt key (List.replicate 16 0x5C)).take 3
            ∧ p' = { s.prov with kwk := some (key, body), programming := none })
          ∨ (∃ text, s.prov.programming = some (.label text) ∧ body = []
              ∧ p' = { s.prov with label := some text, programming := none })
          ∨ (s.prov.programming = some .lock ∧ body = [] ∧ p' = { s.prov with locked := true, programming := none }) →
        (s.device.resetWaits = false →
          exec .programmingComplete s = .next ((s.withProv p').withControl (s.control.replied q .ok Flags.none body)))
        ∧ (s.device.resetWaits = true → ∃ t : State, exec .programmingComplete s = .next t ∧ s.hardResetTo t ∧ t.prov = p'
            ∧ t.device = { s.device with state := .inReset, resetWaits := false }))
  ∧ ∀ (i : Instr) (s t : State), s.prov.locked = true → s.prov.programming = none → exec i s = .next t → t.prov = s.prov

/-- R174, R175, R176, R181, R183: RESET sets every volatile item to its hard-reset value (or waits for programming to end); its release
samples the straps and begins start-up; power-on does both, with the zeroize count 0. A FAILED device leaves FAILED in no other way. The
model's choices in it: every lane is FAILED until it has been tested (log 19), the clock is kept over a reset (log 28), a RESET waits for
programming and power-on does not (log 17), and START_UP changes nothing while RESET is not held (log 2). -/
def Obligations.ResetsAndStartUp : Prop :=
  (∀ s : State,
    (s.prov.programming = none → ∃ t : State, exec .hardReset s = .next t ∧ s.hardResetTo t ∧ t.prov = s.prov ∧ t.now = s.now
        ∧ t.pending = s.pending ∧ t.device = { s.device with state := .inReset, resetWaits := false })
    ∧ (s.prov.programming ≠ none → exec .hardReset s = .next (s.withDevice { s.device with resetWaits := true })))
  ∧ (∀ (s : State) (ctrlRate wrapOnly : Bool),
      (s.device.state = .inReset → exec (.startUp ctrlRate wrapOnly) s
        = .next (s.withDevice { s.device with state := .starting, ctrlRate := ctrlRate, wrapOnly := wrapOnly }))
      ∧ (s.device.state ≠ .inReset → exec (.startUp ctrlRate wrapOnly) s = .next s)
      ∧ ∃ t : State, exec (.powerOn ctrlRate wrapOnly) s = .next t ∧ s.hardResetTo t ∧ t.now = s.now ∧ t.pending = s.pending
        ∧ t.device = { state := .starting, ctrlRate := ctrlRate, wrapOnly := wrapOnly, zeroizeCount := 0, resetWaits := false }
        ∧ (s.prov.programming = none → t.prov = s.prov))
  ∧ ∀ (i : Instr) (s t : State), s.device.state = .failed → s.device.resetWaits = false → exec i s = .next t →
      t.device.state = .failed ∨ i = .hardReset ∨ ∃ c w, i = .powerOn c w

/-- R118, R138, R170, R175: the self-test of a STARTING device sets the lane health and makes the device RUNNING when a lane and the
unwrap have passed, FAILED otherwise, with one STARTED-UP notice; on RUNNING every port whose signal is present becomes UP with its
notice, the rack ports first (the order: log 16). -/
def Obligations.SelfTestEndsStartUp : Prop :=
  ∀ (s : State) (passed : BitVec 8) (unwrap : Bool),
    (s.device.state ≠ .starting → exec (.selfTestComplete passed unwrap) s = .next s)
    ∧ (s.device.state = .starting → ∃ t : State, exec (.selfTestComplete passed unwrap) s = .next t
        ∧ (∀ l : LaneId, t.lane l = if passed.getLsbD l.val then .idle else .failed)
        ∧ t.records = s.records ∧ t.bank = s.bank ∧ t.rules = s.rules ∧ t.flow = s.flow ∧ t.lastGrant = s.lastGrant ∧ t.prov = s.prov
        ∧ t.now = s.now
        ∧ (passed = 0 ∨ unwrap = false → t.device = { s.device with state := .failed } ∧ t.links = s.links
            ∧ t.control = (s.control.notify (.startedUp .failed passed unwrap)).pump)
        ∧ (passed ≠ 0 → unwrap = true → t.device = { s.device with state := .running }
            ∧ (∀ side n, (t.port side n).up = ((s.port side n).up || (s.port side n).signal))
            ∧ (∀ d n, (t.path d n).queue = (s.path d n).queue ∧ (t.path d n).free = (s.path d n).free)
            ∧ t.control = ((((([0, 1, 2, 3] : List LinkId).filter fun n => (s.port .rack n).signal).map fun n => Notice.portUp n .rack)
                ++ ((([0, 1, 2, 3] : List LinkId).filter fun n => (s.port .campus n).signal).map fun n =>
                  Notice.portUp n .campus)).foldl Control.notify (s.control.notify (.startedUp .running passed true))).pump))

/-! ### Ports and buffers (R138 to R146) -/

/-- R117, R138, R139, R145: a signal that appears on a RUNNING device makes its port UP with a PORT-UP notice (and a PAUSING buffer's
PAUSE frame goes out at once); a signal that is lost makes it DOWN with a PORT-DOWN notice, ends its transmission, its pause and the PAUSE
frames asked of it and counts a reception as BAD-FCS; a DONE head that waited for it is dropped with PORT-DOWN, and no DROPPED or DONE
entry is left at the head of its queue. That the PORT-DOWN notice comes before the notices of the heads released is the model's choice
(log 16). -/
def Obligations.PortsFollowTheirSignals : Prop :=
  ∀ (s : State) (side : Side) (n : LinkId) (p : Port), p = s.port side n →
    (s.device.state ≠ .running ∨ p.up = true →
      exec (.linkSignalAppears side n) s = .next (s.setPort side n { p with signal := true }))
    ∧ (s.device.state = .running → p.up = false → (s.path (fedDir side) n).pausing = false →
        exec (.linkSignalAppears side n) s = .next
          ((s.setPort side n { p with signal := true, up := true }).withControl (s.control.notify (.portUp n side)).pump))
    ∧ (s.device.state = .running → p.up = false → (s.path (fedDir side) n).pausing = true → ∃ t : State,
        exec (.linkSignalAppears side n) s = .next t
        ∧ t.port side n = { p with signal := true, up := true,
                                   lineOut := pauseFrame (((s.params n).buf (fedDir side)).quanta) }
        ∧ (t.path (fedDir side) n).resendAt = some (s.now + ((s.params n).buf (fedDir side)).quanta * 512 / 2)
        ∧ t.control = (s.control.notify (.portUp n side)).pump)
    ∧ (p.up = false → ∀ r, exec (.linkSignalLost side n r) s = .next (s.setPort side n { p with signal := false }))
    ∧ (p.up = true → ∀ r s1, s1 = s.setPort side n { p with signal := false, up := false, pausedUntil := none, sending := false,
                                                            pauseAsked := [] } →
        exec (.linkSignalLost side n r) s = .next
          ((((if r then s1.countDrop (fedDir side) n .badFcs 1 else s1).notify (.portDown n side))).finish (sentDir side) n)
        ∧ (∀ e rest, side = .campus → (s.path .egress n).queue = e :: rest → e.state = .done →
            (∀ e', rest.head? = some e' → e'.isDropped = false ∧ e'.state ≠ .done) →
            exec (.linkSignalLost side n r) s = .next
              ((((if r then s1.countDrop (fedDir side) n .badFcs 1 else s1).notify (.portDown n side)).dropHead .egress n .portDown).pump))
        ∧ ∀ t, exec (.linkSignalLost side n r) s = .next t →
            (∀ e, (t.path (sentDir side) n).queue.head? = some e → e.isDropped = false ∧ e.state ≠ .done)
            ∧ (side = .campus →
                (t.path .egress n).queue = (s.path .egress n).queue.dropWhile fun e => e.isDropped || e.state == .done))

/-- R142, R144: freeing and taking cells change a buffer's free count, and at each change the buffer tests its thresholds: below XOFF a
NORMAL buffer becomes PAUSING, starts its resend interval and asks an UP feeding port for a PAUSE frame; at XON or above a PAUSING one
becomes NORMAL and asks for a PAUSE 0. Nothing else is changed. -/
def Obligations.BuffersTestTheirThresholds : Prop :=
  ∀ (s : State) (d : Dir) (n : LinkId) (k : Nat), 0 < k → ∀ (p : Path) (b : BufferParams), p = s.path d n → b = (s.params n).buf d →
    ∀ (t : State) (free : Nat), (t = s.freeCells d n k ∧ free = p.free + k) ∨ (k ≤ p.free ∧ t = s.takeCells d n k ∧ free = p.free - k) →
      ∀ stops resumes : Bool, stops = (!p.pausing && decide (free < b.xoff)) → resumes = (p.pausing && decide (b.xon ≤ free)) →
        t.path d n = { p with free := free, pausing := (p.pausing || stops) && !resumes,
                              resendAt := if stops then some (s.now + b.quanta * 512 / 2) else if resumes then none else p.resendAt }
        ∧ t.port (feedSide d) n = { s.port (feedSide d) n with
            pauseAsked := (s.port (feedSide d) n).pauseAsked
              ++ (if (s.port (feedSide d) n).up then (if stops then [.stop] else if resumes then [.resume] else []) else []) }
        ∧ t.port (sendSide d) n = s.port (sendSide d) n ∧ (∀ d', d' ≠ d → t.path d' n = s.path d' n)
        ∧ (t.link n).mode = (s.link n).mode ∧ (t.link n).params = (s.link n).params ∧ (t.link n).cover = (s.link n).cover
        ∧ (∀ m, m ≠ n → t.link m = s.link m) ∧ s.sameCore t

/-- R140, R141, R146: the arrival of a frame on an UP port. Its checks in order: RUNT below 64 bytes, OVERSIZE above the port's limit,
BAD-FCS; a MAC control frame is consumed, and a PAUSE frame sets or ends the transmit pause; then cells, or NO-BUFFER; a frame that is
stored waits for classification behind those before it. A DOWN port receives nothing. -/
def Obligations.ArrivalStoresOrDrops : Prop :=
  ∀ (s : State) (side : Side) (n : LinkId) (f : Bytes) (d : Dir) (p : Port) (limit : Nat), d = fedDir side → p = s.port side n →
    limit = (match side with | .rack => (s.params n).rackMax | .campus => (s.params n).campusMax) →
    (p.up = false → exec (.frameArrival side n f) s = .next s)
    ∧ (p.up = true → f.length < 64 → exec (.frameArrival side n f) s = .next (s.countDrop d n .runt 1))
    ∧ (p.up = true → 64 ≤ f.length →
      (limit < f.length → exec (.frameArrival side n f) s = .next (s.countDrop d n .oversize 1))
      ∧ (f.length ≤ limit → fcsMatches f = false → exec (.frameArrival side n f) s = .next (s.countDrop d n .badFcs 1))
      ∧ (f.length ≤ limit → fcsMatches f = true →
        (numAt f 12 2 = 0x8808 → numAt f 14 2 ≠ 1 → exec (.frameArrival side n f) s = .next s)
        ∧ (numAt f 12 2 = 0x8808 → numAt f 14 2 = 1 → 0 < numAt f 16 2 → exec (.frameArrival side n f) s
            = .next (s.setPort side n { p with pausedUntil := some (s.now + numAt f 16 2 * 512) }))
        ∧ (numAt f 12 2 = 0x8808 → numAt f 14 2 = 1 → numAt f 16 2 = 0 → exec (.frameArrival side n f) s
            = .next (if p.pausedUntil = none then s
                     else (s.setPort side n { p with pausedUntil := none }).startTransmit (sentDir side) n))
        ∧ (numAt f 12 2 ≠ 0x8808 → (s.path d n).free < (f.length + 127) / 128 →
            exec (.frameArrival side n f) s = .next (s.setPath d n { s.path d n with
              counters := { (s.path d n).counters.addDiscard .noBuffer 1 with
                arrivalNoBuffer := sat48 (s.path d n).counters.arrivalNoBuffer 1 } }))
        ∧ (numAt f 12 2 ≠ 0x8808 → (f.length + 127) / 128 ≤ (s.path d n).free →
            exec (.frameArrival side n f) s = .next ((s.setPath d n { s.path d n with
              stored := (s.path d n).stored ++ [f]
              counters := { (s.path d n).counters with framesIn := sat48 (s.path d n).counters.framesIn 1 } }).takeCells d n
                ((f.length + 127) / 128)))))

/-- R144, R145, R146: a PAUSE frame asked of a port goes out at its frame boundary, paused or not, and restarts the resend interval; the
end of a resend interval asks for a further one; the end of a transmit pause lets the port take its waiting head at once. The model's
choices in it: a deadline brings the clock to its time (log 1), PAUSE frames asked of a port leave one at a time, oldest first, and show in
`lineOut` (log 15), and a resend interval restarts at its end as well as when a PAUSE frame is sent (log 34). A command whose event cannot
occur changes nothing (log 2). -/
def Obligations.PauseFramesAndDeadlines : Prop :=
  (∀ (s : State) (side : Side) (n : LinkId) (p : Port) (d : Dir), p = s.port side n → d = fedDir side →
    (p.pauseAsked = [] ∨ p.up = false ∨ p.sending = true → exec (.pauseFrameSend side n) s = .next s)
    ∧ ∀ k rest, p.pauseAsked = k :: rest → p.up = true → p.sending = false → ∃ t : State, exec (.pauseFrameSend side n) s = .next t
      ∧ t.port side n = { p with
          pauseAsked := rest
          lineOut := withFcs ([0x01, 0x80, 0xC2, 0, 0, 0x01, 0, 0, 0, 0, 0, 0, 0x88, 0x08, 0, 0x01]
            ++ u16 (if k = .stop then ((s.params n).buf d).quanta else 0) ++ zeros 42) }
      ∧ t.path d n = { s.path d n with
          resendAt := if (s.path d n).pausing then some (s.now + ((s.params n).buf d).quanta * 512 / 2) else (s.path d n).resendAt }
      ∧ (∀ m, m ≠ n → t.link m = s.link m) ∧ s.sameCore t)
  ∧ (∀ (s : State) (d : Dir) (n : LinkId) (p : Port), p = s.port (feedSide d) n →
      ((s.path d n).resendAt = none ∨ (s.path d n).pausing = false → exec (.pauseResendInterval d n) s = .next s)
      ∧ ∀ due, (s.path d n).resendAt = some due → (s.path d n).pausing = true → ∃ t : State,
        exec (.pauseResendInterval d n) s = .next t ∧ t.now = max s.now due
        ∧ t.path d n = { s.path d n with resendAt := some (max s.now due + ((s.params n).buf d).quanta * 512 / 2) }
        ∧ t.port (feedSide d) n = { p with pauseAsked := p.pauseAsked ++ if p.up then [.stop] else [] })
  ∧ ∀ (s : State) (side : Side) (n : LinkId),
      ((s.port side n).pausedUntil = none → exec (.pauseDeadline side n) s = .next s)
      ∧ ∀ due, (s.port side n).pausedUntil = some due → exec (.pauseDeadline side n) s
        = .next (((s.withNow (max s.now due)).setPort side n { s.port side n with pausedUntil := none }).startTransmit (sentDir side) n)

/-- R14, R22, R114, R115, R146, R147: a DONE head is taken by its port when it is UP, not paused and free, with no PAUSE frame ahead (log
29); what goes out is the frame as stored for BYPASS and the envelope or restored frame with its FCS otherwise. At the end the entry
leaves, the counters and the record's frame count rise, and its cells are freed. -/
def Obligations.HeadsAreTransmitted : Prop :=
  ∀ (s : State) (d : Dir) (n : LinkId) (p : Port), p = s.port (sendSide d) n →
    ((s.path d n).queue = [] → exec (.frameTransmitStart d n) s = .next s ∧ exec (.frameTransmitEnd d n) s = .next s)
    ∧ ∀ (e : Entry) (rest : List Entry) (wire : Bytes), (s.path d n).queue = e :: rest →
      wire = (if e.verdict = .bypass then e.data else e.data ++ ethernetFcs e.data) →
      (e.state ≠ .done ∨ p.up = false ∨ p.pausedUntil ≠ none ∨ p.sending = true ∨ p.pauseAsked ≠ [] →
        exec (.frameTransmitStart d n) s = .next s)
      ∧ (e.state = .done → p.up = true → p.pausedUntil = none → p.sending = false → p.pauseAsked = [] →
        exec (.frameTransmitStart d n) s = .next (s.setPort (sendSide d) n { p with sending := true, lineOut := wire }))
      ∧ (e.state ≠ .done ∨ p.sending = false → exec (.frameTransmitEnd d n) s = .next s)
      ∧ (e.state = .done → p.sending = true → ∀ (s1 s2 : State) (c : Counters),
        c = { (s.path d n).counters with
              framesOut := sat48 (s.path d n).counters.framesOut 1
              octetsOut := sat48 (s.path d n).counters.octetsOut wire.length
              coverSent := if e.kind = .cover then sat48 (s.path d n).counters.coverSent 1 else (s.path d n).counters.coverSent } →
        s1 = (s.setPort (sendSide d) n { p with sending := false }).setPath d n { s.path d n with queue := rest, counters := c } →
        s2 = (match e.assoc with
              | some a => s1.setRecord a { s1.record a with frames := min (2 ^ 48 - 1) ((s1.record a).frames + 1) }
              | none => s1) →
        exec (.frameTransmitEnd d n) s = .next ((s2.freeCells d n e.cells).finish d n))

/-! ### The egress path (R7 to R11, R64 to R82, R88 to R92) -/

/-- R8: the plaintext length and the padding of a frame of `len` bytes, as the envelope values of an envelope that fits whole give them: P
= L − 16 − 4x, at least 48 untagged and 44 with an exposed tag; with quantum 0 no padding; with a quantum q the padded length is the
smallest multiple of q that is at least P + 2, PADDED is set, the padding ends in its two-byte trailer, and z is at most q − 1, which P +
2 one above a multiple reaches. -/
def Obligations.EnvelopePadding : Prop :=
  ∀ (len q m : Nat) (x : Bool), 64 ≤ len → q ≤ 256 → len + 2 + q + 26 ≤ m → ∃ v : EnvValues, envelopeOf len x q m = some (v, false)
    ∧ v.x = x ∧ v.plain + 16 + (if x then 4 else 0) = len ∧ (if x then 44 else 48) ≤ v.plain
    ∧ (q = 0 → v.z = 0 ∧ v.padded = false ∧ v.ctLen = v.plain ∧ padBytes v = [])
    ∧ (0 < q → q ∣ v.ctLen ∧ v.plain + 2 ≤ v.ctLen ∧ (∀ t, q ∣ t → v.plain + 2 ≤ t → v.ctLen ≤ t) ∧ v.padded = true
        ∧ v.z = v.ctLen - v.plain - 2 ∧ padBytes v = zeros v.z ++ u16 v.z
        ∧ (q ∣ v.plain + 2 → v.z = 0 ∧ padBytes v = [0, 0]) ∧ v.z ≤ q - 1 ∧ ((v.plain + 2) % q = 1 % q → v.z = q - 1))

/-- R89 to R92, R97, R98, R109: the classification of the oldest stored rack frame. HALT and COVER drop it; then the lowest-indexed range
rule that applies and matches decides, then the flow entry of its address, then the ANY entry, then the link's default. A DISCARD drops
it, a BYPASS needs SELECTIVE and a place, an ENCRYPT a record that takes it and a place, and is then dispatched. R1, R93: a rule applies
when it is enabled and its sets hold the link and the direction; it matches when its field's value (the VID code, 4096 for an untagged
frame, the EtherType, or the first address byte) lies in low to high, or outside of it by its sense. R98: the entry that decides has its hit
count raised by one up to 2^32 − 1, and nothing else of the table is changed. -/
def Obligations.EgressClassificationDecides : Prop :=
  (∀ (r : RangeRule) (d : Dir) (n : LinkId) (f : Bytes) (v : Nat),
    v = (match r.field with
         | .vidCode => if numAt f 12 2 = 0x8100 then numAt f 14 2 % 4096 else 4096
         | .etherType => if numAt f 12 2 = 0x8100 then numAt f 16 2 else numAt f 12 2
         | .daByte => (byteAt f 0).toNat) →
    (r.applies d n = true ↔ r.enabled = true ∧ r.links.getLsbD n.val = true
        ∧ r.dirs.getLsbD (match d with | .egress => 0 | .ingress => 1) = true)
    ∧ (r.matches f = true ↔ match r.sense with | .inside => r.low ≤ v ∧ v ≤ r.high | .outside => v < r.low ∨ r.high < v))
  ∧ (∀ (t : FlowTable) (k : FlowKey), (t.hit k).free = t.free ∧ (∀ b, b ≠ k.bucket → (t.hit k).chain b = t.chain b)
      ∧ (t.hit k).chain k.bucket
        = (t.chain k.bucket).map fun e => if e.key = k then { e with hits := min (2 ^ 32 - 1) (e.hits + 1) } else e)
  ∧ ∀ (s : State) (n : LinkId), ((s.path .egress n).stored = [] → exec (.egressClassification n) s = .next s)
    ∧ ∀ (f : Bytes) (rest : List Bytes) (s0 : State) (cells : Nat), (s.path .egress n).stored = f :: rest →
      s0 = s.setPath .egress n { s.path .egress n with stored := rest } → cells = (f.length + 127) / 128 →
      ((s.link n).mode = .halt → exec (.egressClassification n) s = .next ((s0.dropFrame .egress n .halted cells).finish .egress n))
      ∧ ((s.link n).mode = .cover → exec (.egressClassification n) s = .next ((s0.dropFrame .egress n .coverMode cells).finish .egress n))
      ∧ ((s.link n).mode = .protect ∨ (s.link n).mode = .selective →
        (∀ i : Fin 32, s.rules[i].applies .egress n = true → s.rules[i].matches f = true →
          (∀ j : Fin 32, j < i → s.rules[j].applies .egress n = false ∨ s.rules[j].matches f = false) →
          exec (.egressClassification n) s = .next
            ((match s.rules[i].verdict with
              | .discard => s0.dropFrame .egress n .ruleDiscard cells
              | .bypass => s0.egressBypass n f).finish .egress n))
        ∧ ((∀ i : Fin 32, s.rules[i].applies .egress n = false ∨ s.rules[i].matches f = false) →
          ∀ (s1 : State) (v : Verdict) (assoc : Option AssocId) (exact any : FlowKey),
            exact = { link := n, vid := vidCode f, addr := some (f.take 6) } → any = { link := n, vid := vidCode f, addr := none } →
            (∃ e, s.flow.find exact = some e ∧ s1 = s0.withFlow (s.flow.hit exact) ∧ v = e.verdict ∧ assoc = e.assoc)
              ∨ (s.flow.find exact = none ∧ ∃ e, s.flow.find any = some e ∧ s1 = s0.withFlow (s.flow.hit any) ∧ v = e.verdict
                  ∧ assoc = e.assoc)
              ∨ (s.flow.find exact = none ∧ s.flow.find any = none ∧ s1 = s0 ∧ v = (s.params n).defVerdict
                  ∧ assoc = (s.params n).defAssoc) →
            exec (.egressClassification n) s = .next
              ((match v, assoc with
                | .discard, _ => s1.dropFrame .egress n .flowDiscard cells
                | .bypass, _ => s1.egressBypass n f
                | .encrypt, none => s1.dropFrame .egress n .noKey cells
                | .encrypt, some a =>
                  if (s.record a).dir = Dir.ingress ∨ (s.record a).link ≠ n then s1.dropFrame .egress n .noKey cells
                  else
                    match (s.record a).state with
                    | .draining => s1.dropFrame .egress n .retired cells
                    | .purging => s1.dropFrame .egress n .purged cells
                    | .empty | .opened | .barred => s1.dropFrame .egress n .noKey cells
                    | .live | .exhausted =>
                      if 128 ≤ (s.path .egress n).queue.length then s1.dropFrame .egress n .orderFull cells
                      else (s1.dispatch n a .frame f.length cells ((s.record a).params.expose && isTagged f) 0 f).1).finish .egress n)))
      ∧ (s0.egressBypass n f = if (s.link n).mode ≠ .selective then s0.dropFrame .egress n .bypassBarred cells
          else if 128 ≤ (s.path .egress n).queue.length then s0.dropFrame .egress n .orderFull cells
          else s0.append .egress n { bypassEntry f with verdict := .bypass, data := f, cells := cells, state := .done })

/-- R65 to R79: the key usage decision for an entry `e` of charge B under egress record `a`. It joins a hold that exists; else the CUR key
takes it when it can, with its next PN, its charge and the soft test (whose crossing rolls over or sets the soft flag with a SOFT-LIMIT
notice); else, with NXT ABSENT it is dropped with EXHAUSTED (and a LIVE record becomes EXHAUSTED with a notice), with NXT READY and OLD
ABSENT the record rolls over and the new key takes it, and otherwise it is held. A hold takes no entry of a DISCARD record, no cover entry
and none beyond 32. -/
def Obligations.KeyUsageDecides : Prop :=
  ∀ (s : State) (n : LinkId) (a : AssocId) (e : Entry) (r : Record) (c : Key) (b : Nat) (held : Bool) (holdOf : State → State × Option Reason),
    r = s.record a → r.cur = some c → b = e.env.charge → held = (s.path .egress n).queue.any (Entry.isHeldOf a) →
    (∀ s' : State, holdOf s' =
      if r.params.holdPolicy = .discard ∨ e.kind = .cover then (s', some .exhausted)
      else if 32 ≤ heldCount (s.path .egress n).queue then (s', some .holdFull)
      else (s'.append .egress n
        { e with
          state := .held ((holdTimesOf (s.path .egress n).queue a).getD (s.now, s.now + (s.params n).holdTimeout * 100000)).1
            ((holdTimesOf (s.path .egress n).queue a).getD (s.now, s.now + (s.params n).holdTimeout * 100000)).2
          pn := none, key := none }, none)) →
    (held = true → s.keyUse n a e = holdOf s)
    ∧ (held = false → r.state ≠ .exhausted → c.state = .inUse → c.u + b ≤ 2 ^ r.params.capExp →
      ∀ (k : Key) (s1 : State),
        k = { c with n := if c.n = 0xFFFFFFFF then 0 else c.n + 1, state := if c.n = 0xFFFFFFFF then .spent else .inUse, u := c.u + b,
                     inFlight := c.inFlight + 1 } →
        s1 = s.append .egress n { e with state := .waiting, pn := some c.n, key := some c.phase } →
        ((c.crossed = true ∨ (c.n < r.params.softPn ∧ k.u < 2 ^ r.params.capExp - 2 ^ r.params.capExp / 8)) →
          s.keyUse n a e = (s1.setRecord a { r with cur := some k }, none))
        ∧ (c.crossed = false → (r.params.softPn ≤ c.n ∨ 2 ^ r.params.capExp - 2 ^ r.params.capExp / 8 ≤ k.u) →
          (r.params.autoRollover = true ∧ r.old = none ∧ (∃ x, r.nxt = some x ∧ x.state = .ready) →
            s.keyUse n a e = ((s1.setRecord a { r with cur := some { k with crossed := true } }).rollEgress a .soft, none))
          ∧ (¬(r.params.autoRollover = true ∧ r.old = none ∧ ∃ x, r.nxt = some x ∧ x.state = .ready) → ∃ test : SoftTest,
            s.keyUse n a e = ((s1.setRecord a { r with cur := some { k with crossed := true, soft := true } }).notify
                (.softLimit a r.link r.generation c.phase c.check c.n k.u test), none)
            ∧ (test = .pn ↔ k.u < 2 ^ r.params.capExp - 2 ^ r.params.capExp / 8) ∧ (test = .blocks ↔ c.n < r.params.softPn))))
    ∧ (held = false → (r.state = .exhausted ∨ c.state ≠ .inUse ∨ 2 ^ r.params.capExp < c.u + b) →
      (r.nxt = none → s.keyUse n a e =
        (if r.state = .live then (s.setRecord a { r with wanted := true, state := .exhausted }).notify
            (.exhausted a r.link r.generation c.phase c.check (if c.state = .spent then .spent else .cap) c.u b)
         else s.setRecord a { r with wanted := true }, some .exhausted))
      ∧ ∀ x, r.nxt = some x →
        ((r.state = .live ∨ r.state = .exhausted) → x.state = .ready → r.old = none →
          s.keyUse n a e = ((s.rollEgress a .limit).dispatchUnderCur n a e, none))
        ∧ ((x.state ≠ .ready ∨ r.old ≠ none) → s.keyUse n a e = holdOf (s.setRecord a { r with wanted := true })))

/-- R9, R11, R64, R65: the dispatch of a frame or cover entry that holds `own` cells: TOO-LARGE when its envelope does not fit the campus
maximum, NO-BUFFER when the cells it still needs are not free, and otherwise the key usage decision, with those cells taken; a dropped
frame gives its cells back. A reduction of padding is counted once. R8, R9, R10: the values of the envelope: E = P′ + 42 + 4x and B =
⌈P′/16⌉ + 4, with P′ = P unpadded, the padded length when that fits, or the padding reduced so that E is the campus maximum; it is too
large when even the trailer alone does not fit. -/
def Obligations.DispatchTakesCellsAndAKey : Prop :=
  (∀ (len q m : Nat) (x : Bool) (tag p : Nat), tag = (if x then 4 else 0) → p = len - 16 - tag →
    (q = 0 → envelopeOf len x q m =
      if p + 42 + tag ≤ m then
        some ({ x := x, plain := p, z := 0, padded := false, ctLen := p, envLen := p + 42 + tag, charge := (p + 15) / 16 + 4 }, false)
      else none)
    ∧ ∀ whole, 0 < q → q ∣ whole → p + 2 ≤ whole → (∀ t, q ∣ t → p + 2 ≤ t → whole ≤ t) → envelopeOf len x q m =
      if whole + 42 + tag ≤ m then
        some ({ x := x, plain := p, z := whole - p - 2, padded := true, ctLen := whole, envLen := whole + 42 + tag,
                charge := (whole + 15) / 16 + 4 }, false)
      else if p + 44 + tag ≤ m then
        some ({ x := x, plain := p, z := m - 44 - tag - p, padded := true, ctLen := m - 42 - tag, envLen := m,
                charge := (m - 42 - tag + 15) / 16 + 4 }, true)
      else none)
  ∧ ∀ (s : State) (n : LinkId) (a : AssocId) (kind : EntryKind) (len own : Nat) (x : Bool) (code : Nat) (data : Bytes),
    let env := envelopeOf len x (s.record a).params.quantum (s.params n).campusMax
    (env = none → s.dispatch n a kind len own x code data = (s.dropFrame .egress n .tooLarge own, some .tooLarge))
    ∧ ∀ (v : EnvValues) (reduced : Bool), env = some (v, reduced) → ∀ (s1 s2 : State) (total : Nat), total = (v.envLen + 127) / 128 →
      s1 = (if reduced then s.setPath .egress n { s.path .egress n with
              counters := { (s.path .egress n).counters with
                clampedPadding := sat48 (s.path .egress n).counters.clampedPadding 1 } } else s) →
      s2 = s1.takeCells .egress n (total - own) →
      ((s.path .egress n).free < total - own →
        s.dispatch n a kind len own x code data = (s1.dropFrame .egress n .noBuffer own, some .noBuffer))
      ∧ (total - own ≤ (s.path .egress n).free → ∀ (t : State) (why : Option Reason),
          s2.keyUse n a { kind := kind, verdict := .encrypt, assoc := some a, key := none, pn := none, phase := 0, env := v,
                          cells := max own total, coverCode := code, data := data, state := .waiting } = (t, why) →
          s.dispatch n a kind len own x code data
            = (match why with
               | none => (t, none)
               | some w => (t.dropFrame .egress n w (max own total), some w)))

/-- R155 to R159: an expiry of a running cover timer schedules the next one an interval later and tries to make one cover entry: a full
queue skips it; no association, a record that cannot take it, or a failed dispatch other than NO-BUFFER stalls the link, with one
COVER-STALLED notice unless it is stalled already; an entry made ends the stall. A stopped timer does not expire. That the command brings
the clock to the timer's deadline is the model's choice (log 1), and so is the order of its COVER-STALLED behind the notices of the dispatch (log 16). -/
def Obligations.CoverTimerMakesCoverEntries : Prop :=
  ∀ (s : State) (n : LinkId), ((s.link n).cover.nextAt = none → exec (.coverTimerExpiry n) s = .next s)
    ∧ ∀ (due : Nat) (s0 s1 : State) (g : CoverGen), (s.link n).cover.nextAt = some due →
      g = { (s.link n).cover with nextAt := some (due + (s.params n).coverInterval * 100000) } →
      s0 = (s.withNow (max s.now due)).setCover n g →
      s1 = s0.setPath .egress n { s.path .egress n with
        counters := { (s.path .egress n).counters with coverFormed := sat48 (s.path .egress n).counters.coverFormed 1 } } →
      (128 ≤ (s.path .egress n).queue.length → exec (.coverTimerExpiry n) s
        = .next ((s0.setCover n { g with skipped := min (2 ^ 32 - 1) (g.skipped + 1) }).finish .egress n))
      ∧ ((s.path .egress n).queue.length < 128 → (s.params n).coverAssoc = none → exec (.coverTimerExpiry n) s
        = .next ((if g.stalled then s0
            else (s0.setCover n { g with stalled := true }).notify (.coverStalled n none .noneSet)).finish .egress n))
      ∧ ((s.path .egress n).queue.length < 128 → ∀ a, (s.params n).coverAssoc = some a →
        (∀ why, bindEgress (s.record a) n = some why → exec (.coverTimerExpiry n) s
          = .next (((s1.countDrop .egress n why 1).coverOutcome n (some why)).finish .egress n))
        ∧ (bindEgress (s.record a) n = none → ∀ (t : State) (why : Option Reason),
          s1.dispatch n a .cover (s.params n).coverLen 0 false (s.params n).coverCode [] = (t, why) →
          exec (.coverTimerExpiry n) s = .next ((t.coverOutcome n why).finish .egress n)))
      ∧ (∀ t : State, t.coverOutcome n none = t.setCover n { (t.link n).cover with stalled := false }
          ∧ t.coverOutcome n (some .noBuffer) = t
          ∧ ∀ why cause, stallCauseOf why = some cause → t.coverOutcome n (some why)
            = if (t.link n).cover.stalled then t
              else (t.setCover n { (t.link n).cover with stalled := true }).notify
                (.coverStalled n ((t.params n).coverAssoc.map fun a => (a, (t.record a).generation, (t.record a).state)) cause))

/-! ### The ingress path (R102 to R106, R124 to R136) -/

/-- R102 to R105, R109, R124, R125, R129: the classification of the oldest stored campus frame. HALT drops it. A frame of the link's
envelope type must have a good header, a record that opens it, a place, and a phase and packet number that its keys take: it is entered
WAITING and counted in flight, held when NXT is LOADING, or dropped under its reason. Any other frame is a clear frame, which only a
BYPASS range rule in SELECTIVE mode lets through. -/
def Obligations.IngressClassificationDecides : Prop :=
  ∀ (s : State) (n : LinkId), ((s.path .ingress n).stored = [] → exec (.ingressClassification n) s = .next s)
    ∧ ∀ (f : Bytes) (rest : List Bytes) (s0 : State) (cells : Nat) (x : Bool) (at4 : Nat), (s.path .ingress n).stored = f :: rest →
      s0 = s.setPath .ingress n { s.path .ingress n with stored := rest } → cells = (f.length + 127) / 128 →
      x = decide (numAt f 12 2 = 0x8100) → at4 = (if x then 4 else 0) →
      let drop (why : Reason) : Host.Outcome State Fault Refusal := .next ((s0.dropFrame .ingress n why cells).finish .ingress n)
      let envelope : Prop := (s.link n).mode ≠ .halt ∧ numAt f (12 + at4) 2 = (s.params n).envType
      let goodHeader : Prop := 60 + at4 ≤ f.length ∧ (byteAt f (14 + at4)).toNat / 16 = 1 ∧ numAt f (16 + at4) 2 ≤ 2047
      ((s.link n).mode = .halt → exec (.ingressClassification n) s = drop .halted)
      ∧ (envelope → ¬goodHeader → exec (.ingressClassification n) s = drop .badHeader)
      ∧ (envelope → goodHeader → ∀ (a : AssocId) (p : Phase) (pn : Nat) (r : Record) (e : Entry), a.val = numAt f (16 + at4) 2 →
          p.val = (byteAt f (14 + at4)).toNat / 4 % 4 → pn = numAt f (18 + at4) 4 → r = s.record a →
          e = openEntry a x { phase := p, padded := (byteAt f (14 + at4)).getLsbD 1, channel := a.val, pn := pn } f →
          (r.dir = .egress ∨ r.link ≠ n ∨ r.state = .empty ∨ r.state = .opened ∨ r.state = .barred ∨ r.state = .exhausted →
            exec (.ingressClassification n) s = drop .noKey)
          ∧ (r.dir = .ingress → r.link = n → (r.state = .draining → exec (.ingressClassification n) s = drop .retired)
              ∧ (r.state = .purging → exec (.ingressClassification n) s = drop .purged)
              ∧ (r.state = .live → 128 ≤ (s.path .ingress n).queue.length → exec (.ingressClassification n) s = drop .orderFull)
              ∧ (r.state = .live → (s.path .ingress n).queue.length < 128 →
                (r.keyOf p = none → exec (.ingressClassification n) s = drop .unknownPhase)
                ∧ ∀ k, r.keyOf p = some k →
                  (k.state = .spent ∨ k.state = .retiring → exec (.ingressClassification n) s = drop .unknownPhase)
                  ∧ (k.state = .inUse ∨ k.state = .ready ∨ k.state = .grace →
                    (∀ why, k.window.test pn = some why → exec (.ingressClassification n) s = drop why)
                    ∧ (k.window.test pn = none → exec (.ingressClassification n) s = .next
                        (((s0.setRecord a (r.mapKey p fun k => { k with inFlight := k.inFlight + 1 })).append .ingress n
                          { e with key := some p }).finish .ingress n)))
                  ∧ (k.state = .loading → r.nxt = some k →
                    (pn = 0 → exec (.ingressClassification n) s = drop .badPn)
                    ∧ (pn ≠ 0 → r.params.holdPolicy = .discard → exec (.ingressClassification n) s = drop .unknownPhase)
                    ∧ (pn ≠ 0 → r.params.holdPolicy = .hold → 32 ≤ heldCount (s.path .ingress n).queue →
                        exec (.ingressClassification n) s = drop .holdFull)
                    ∧ (pn ≠ 0 → r.params.holdPolicy = .hold → heldCount (s.path .ingress n).queue < 32 →
                        ∀ times : Nat × Nat, times = (holdTimesOf (s.path .ingress n).queue a).getD
                          (s.now, s.now + (s.params n).holdTimeout * 100000) →
                        exec (.ingressClassification n) s = .next
                          ((s0.append .ingress n { e with state := .held times.1 times.2 }).finish .ingress n))))))
      ∧ ((s.link n).mode ≠ .halt → numAt f (12 + at4) 2 ≠ (s.params n).envType →
        ((s.link n).mode ≠ .selective → exec (.ingressClassification n) s = drop .clearBarred)
        ∧ ((s.link n).mode = .selective →
          (s.ruleVerdict .ingress n f = none → exec (.ingressClassification n) s = drop .clearBarred)
          ∧ (s.ruleVerdict .ingress n f = some .discard → exec (.ingressClassification n) s = drop .ruleDiscard)
          ∧ (s.ruleVerdict .ingress n f = some .bypass → 128 ≤ (s.path .ingress n).queue.length →
              exec (.ingressClassification n) s = drop .orderFull)
          ∧ (s.ruleVerdict .ingress n f = some .bypass → (s.path .ingress n).queue.length < 128 →
              exec (.ingressClassification n) s = .next ((s0.append .ingress n (bypassEntry f)).finish .ingress n))))

/-- R20, R128: the window test. 0 is BAD-PN; a number at most H − W is LATE when H is above W; a marked one is DUPLICATE; any other is
acceptable, however far above H. With H at most W nothing but 0 is refused unmarked. A window of size 0 that began empty marks nothing and
accepts only numbers that rise. Accepting keeps the size, as SET-ASSOC does, and brings H to a number above it. -/
def Obligations.WindowTestRefusesInOrder : Prop :=
  (∀ (w : Window) (p : Nat),
    (p = 0 → w.test p = some .badPn)
    ∧ (p ≠ 0 → w.size < w.high → p ≤ w.high - w.size → w.test p = some .late)
    ∧ (p ≠ 0 → (w.high ≤ w.size ∨ w.high - w.size < p) → p ∈ w.marked → w.test p = some .duplicate)
    ∧ (p ≠ 0 → (w.high ≤ w.size ∨ w.high - w.size < p) → p ∉ w.marked → w.test p = none)
    ∧ (w.accept p).size = w.size ∧ (w.high < p → (w.accept p).high = p))
  ∧ (∀ ps : List Nat, ((Window.empty 0).passes ps).Pairwise (· < ·)
      ∧ (ps.foldl (fun w p => if w.test p = none then w.accept p else w) (Window.empty 0)).marked = [])
  ∧ ∀ (s : State) (q : Request) (a : AssocId) (p : Phase),
      (((State.setAssocRecord q a s).1.record a).keyOf p).map Key.window = ((s.record a).keyOf p).map Key.window

/-- R118 to R121, R131: a grant gives the lowest-numbered IDLE lane the oldest WAITING entry of the first requester after the last one
granted that offers, with the key, salt, channel and envelope type as they stand; a lane that completes makes its entry DONE with the
envelope, VERIFIED with the plaintext, or DROPPED with TAG-FAIL (with the count and the key's one notice), lowers the key's count and is
IDLE again. That TAG-FAIL is queued before the notices of what the Store does and of the heads released is the model's choice (log 16).
R2, R4, R5, R6, R15: the envelope is DA, SA and the exposed tag (zeros for a cover frame), the envelope type, the flags byte with
version 1, phase and PADDED, a zero byte, channel and packet number, then the ciphertext, as long as the plaintext, and 16 bytes of tag;
what a lane has built under a key of 32 bytes, a lane opens under that key and salt to the same header and plaintext. -/
def Obligations.LanesTakeAndCompleteEntries : Prop :=
  (∀ (e e' : Entry) (f f' : Fetched) (pn tag : Nat) (outer header plaintext crc : Bytes), e.pn = some pn →
    tag = (if e.env.x then 4 else 0) →
    outer = (match e.kind with | .cover => zeros 12 | .frame => e.data.take (12 + tag)) →
    header = outer ++ u16 f.envType ++ [BitVec.ofNat 8 (16 + 4 * f.phase.val + if e.env.padded then 2 else 0), 0]
      ++ u16 f.channel ++ u32 pn →
    plaintext = (match e.kind with
        | .cover => u16 e.coverCode ++ zeros (e.env.plain - 2)
        | .frame => (e.data.drop (12 + tag)).take (e.data.length - 16 - tag)) ++ (if e.env.padded then zeros e.env.z ++ u16 e.env.z else []) →
    (buildEnvelope e f).take header.length = header
    ∧ (f.material.length = 32 → (buildEnvelope e f).length = header.length + plaintext.length + 16)
    ∧ (f.material.length = 32 → outer.length = 12 + tag → e'.data = buildEnvelope e f ++ crc → e'.pn = some pn → e'.env.x = e.env.x →
        e'.env.ctLen = plaintext.length → f'.material = f.material → f'.hashKey = f.hashKey → f'.salt = f.salt →
        openEnvelope e' f' = some (header ++ plaintext)))
  ∧   (∀ s : State, ((∀ l, s.lane l ≠ .idle) ∨ (∀ d n, ∀ e ∈ (s.path d n).queue, e.state ≠ .waiting) → exec .laneGrant s = .next s)
    ∧ ∀ (l : LaneId) (i : Fin 8) (d : Dir) (n : LinkId) (before after : List Entry) (e : Entry) (j : Fin 8),
      s.lane l = .idle → (∀ l' < l, s.lane l' ≠ .idle) → i = s.lastGrant + 1 + j → (d, n) = requesterQueue i →
      (s.path d n).queue = before ++ e :: after → (∀ e' ∈ before, e'.state ≠ .waiting) → e.state = .waiting →
      (∀ j' < j, ∀ e' ∈ (s.path (requesterQueue (s.lastGrant + 1 + j')).1 (requesterQueue (s.lastGrant + 1 + j')).2).queue,
        e'.state ≠ .waiting) →
      exec .laneGrant s = .next
        (((s.setQueue d n (before ++ { e with state := .inLane l } :: after)).setLane l (.busy d n (s.fetch n e))).withLastGrant i)
      ∧ ∀ a p k, e.assoc = some a → e.key = some p → (s.record a).keyOf p = some k →
          s.fetch n e = { material := k.material, hashKey := k.hashKey, salt := k.salt, phase := k.phase,
                          channel := (s.record a).channel, envType := (s.params n).envType })
  ∧ ∀ (s : State) (l : LaneId), ((∀ d n f, s.lane l ≠ .busy d n f) → exec (.laneComplete l) s = .next s)
    ∧ ∀ (d : Dir) (n : LinkId) (f : Fetched) (before after : List Entry) (e : Entry) (a : AssocId) (p : Phase), s.lane l = .busy d n f →
      (s.path d n).queue = before ++ e :: after → e.state = .inLane l → (∀ e' ∈ before ++ after, e'.state ≠ .inLane l) →
      e.assoc = some a → e.key = some p →
      (d = .egress → exec (.laneComplete l) s = .next
        ((((s.setLane l .idle).setQueue d n (before ++ { e with state := .done, data := buildEnvelope e f } :: after)).lowerCount e).finish
          d n))
      ∧ (d = .ingress → ∀ data, openEnvelope e f = some data → exec (.laneComplete l) s = .next
        ((((s.setLane l .idle).setQueue d n (before ++ { e with state := .verified, data := data } :: after)).lowerCount e).finish d n))
      ∧ (d = .ingress → openEnvelope e f = none → ∀ (r : Record) (k : Key) (s1 s2 : State), r = s.record a → r.keyOf p = some k →
          s1 = (((s.setLane l .idle).setQueue d n (before ++ e.drop .tagFail :: after)).countDrop d n .tagFail 1).freeCells d n e.cells →
          s2 = (if k.tagFailed then s1.setRecord a { r with tagFails := min (2 ^ 48 - 1) (r.tagFails + 1) }
            else (s1.setRecord a (({ r with tagFails := min (2 ^ 48 - 1) (r.tagFails + 1) } : Record).mapKey p
                fun k => { k with tagFailed := true })).notify
              (.tagFail a r.link r.generation k.phase k.check (e.pn.getD 0) (min (2 ^ 48 - 1) (r.tagFails + 1)))) →
          exec (.laneComplete l) s = .next ((s2.lowerCount e).finish d n))
      ∧ ∀ s1 : State, s1.lowerCount e = (s1.setRecord a ((s1.record a).mapKey p fun k => { k with inFlight := k.inFlight - 1 })).storeActs a

/-- R13, R14, R113, R117, R130 to R136: the release of a VERIFIED head. A packet number that its key's window refuses now drops it. Else
the number is marked, a READY NXT key of a LIVE record asks for the ingress rollover (made when OLD is ABSENT, wanted otherwise), and the
frame is unpadded: BAD-PAD drops it, a cover frame is consumed, a DOWN rack port drops it, and otherwise it becomes DONE with the restored
frame. R5, R13, R14: what is restored from a header and a plaintext: DA, SA and an exposed tag, then the plaintext without its pad and
trailer; it is BAD-PAD when z leaves fewer than two bytes, when a pad byte is not zero, or when the frame would be shorter than 64 bytes.
From the plaintext of a rack frame of at least 64 bytes, padded or not, that frame comes back without its FCS. -/
def Obligations.HeadReleaseOpensAFrame : Prop :=
  (∀ (x padded : Bool) (header p : Bytes) (tag z : Nat), tag = (if x then 4 else 0) → header.length = 22 + tag →
    z = numAt p (p.length - 2) 2 →
    restoreFrame x padded (header ++ p) =
      if padded = false then
        if p.length + 16 + tag < 64 then none else some (header.take (12 + tag) ++ p, numAt p 0 2)
      else if p.length < z + 4 ∨ slice p (p.length - 2 - z) z ≠ zeros z ∨ p.length - z - 2 + 16 + tag < 64 then none
      else some (header.take (12 + tag) ++ p.take (p.length - z - 2), numAt p 0 2))
  ∧ (∀ (v : EnvValues) (f header : Bytes) (tag : Nat), tag = (if v.x then 4 else 0) → 64 ≤ f.length → v.z < 65536 →
      header.length = 22 + tag → header.take (12 + tag) = f.take (12 + tag) →
      restoreFrame v.x v.padded (header ++ plaintextOf v f) = some (f.take (f.length - 4), numAt f (12 + tag) 2))
  ∧ ∀ (s : State) (n : LinkId), ((∀ e, (s.path .ingress n).queue.head? = some e → e.state ≠ .verified ∧ e.isDropped = false ∧ e.state ≠ .done) →
      exec (.headRelease n) s = .next (s.withControl s.control.pump))
    ∧ ∀ (e : Entry) (rest : List Entry) (a : AssocId) (p : Phase) (pn : Nat) (r : Record) (k : Key),
      (s.path .ingress n).queue = e :: rest → e.state = .verified → e.assoc = some a → e.key = some p → e.pn = some pn →
      r = s.record a → r.keyOf p = some k →
      (∀ why, k.window.test pn = some why → exec (.headRelease n) s = .next ((s.dropHead .ingress n why).finish .ingress n))
      ∧ (k.window.test pn = none → ∀ (r1 : Record) (s1 : State), r1 = r.mapKey p (fun k => { k with window := k.window.accept pn }) →
        s1 = (if (∃ x, r1.nxt = some x ∧ x.phase = p ∧ x.state = .ready) ∧ r.state = .live then
                (if r.old = none then (s.setRecord a r1).rollIngress a else s.setRecord a { r1 with wanted := true })
              else s.setRecord a r1) →
        (restoreFrame e.env.x e.env.padded e.data = none →
          exec (.headRelease n) s = .next ((s1.dropHead .ingress n .badPad).finish .ingress n))
        ∧ ∀ frame firstTwo, restoreFrame e.env.x e.env.padded e.data = some (frame, firstTwo) →
          (firstTwo = (s.params n).coverCode → exec (.headRelease n) s = .next ((s1.consumeCover n a e).finish .ingress n))
          ∧ (firstTwo ≠ (s.params n).coverCode → (s.link n).rack.up = false →
              exec (.headRelease n) s = .next ((s1.dropHead .ingress n .portDown).finish .ingress n))
          ∧ (firstTwo ≠ (s.params n).coverCode → (s.link n).rack.up = true →
              exec (.headRelease n) s = .next
                (s1.setQueue .ingress n ({ e with state := .done, data := frame } :: rest)).pump))

/-- R31, R73, R84, R87, R133, R135, R136, R137: the ends of keys. A grace timer's deadline makes its OLD key RETIRING; a RETIRING key with
nothing in flight is destroyed, its VERIFIED entries dropped with LATE, and a rollover that waited for OLD is made; a DRAINING record with
nothing in flight is emptied with a RETIRED notice. R24, R113, R133: emptying a record drops the VERIFIED entries of its keys in place,
counts them and frees their cells, keeps its generation, and no entry names it any more. Each command does nothing while its event cannot
occur (log 2), and a deadline brings the clock to its time (log 1). -/
def Obligations.KeysAndRecordsEnd : Prop :=
  (∀ (s : State) (a : AssocId) (r : Record), r = s.record a →
    (exec (.graceExpiry a) s = .next
      (match r.old with
       | some k =>
         match k.graceAt with
         | some due =>
           if k.state = .grace then
             (((s.withNow (max s.now due)).setRecord a { r with old := some { k with state := .retiring, graceAt := none } }).storeActs
               a).finish r.dir r.link
           else s
         | none => s
       | none => s))
    ∧ (∀ k, r.old = some k → k.state = .retiring → k.inFlight = 0 →
        exec (.retiringKeyDestroyed a) s = .next
          ((((s.dropEntries .ingress r.link (Entry.isVerifiedOf a k.phase) .late).setRecord a { r with old := none }).deferredRollover
            a).finish r.dir r.link))
    ∧ ((∀ k, r.old = some k → k.state ≠ .retiring ∨ k.inFlight ≠ 0) →
        exec (.retiringKeyDestroyed a) s = .next (s.finish r.dir r.link))
    ∧ (r.state = .draining → slotInFlight r.cur + slotInFlight r.nxt + slotInFlight r.old = 0 →
        exec (.drainEnd a) s = .next (((s.emptyRecord a .empty .retired).notify
          (.retired a r.dir r.link r.generation r.frames r.tagFails)).finish r.dir r.link))
    ∧ (r.state ≠ .draining ∨ slotInFlight r.cur + slotInFlight r.nxt + slotInFlight r.old ≠ 0 →
        exec (.drainEnd a) s = .next (s.finish r.dir r.link)))
  ∧ (∀ (s : State) (a : AssocId) (r : Record), r = s.record a →
      (r.dir = .ingress → exec (.deferredRollover a) s = .next s)
      ∧ (r.dir = .egress → exec (.deferredIngressRollover a) s = .next s)
      ∧ (r.wanted = false ∨ (r.state ≠ .live ∧ r.state ≠ .exhausted) ∨ r.old ≠ none ∨ (∀ x, r.nxt = some x → x.state ≠ .ready) →
          s.deferredRollover a = s)
      ∧ ∀ c x, r.wanted = true → (r.state = .live ∨ r.state = .exhausted) → r.cur = some c → r.nxt = some x → x.state = .ready →
          r.old = none →
          (r.dir = .egress → exec (.deferredRollover a) s = .next (s.rollEgress a .limit).pump)
          ∧ (r.dir = .ingress → exec (.deferredIngressRollover a) s = .next
              ((s.setRecord a { r with
                  cur := some { x with state := .inUse }
                  nxt := none
                  old := some { c with state := .grace,
                                       graceAt := some (s.now + (s.params r.link).graceInterval * 100000000) }
                  generation := (r.generation + 1) % 256
                  wanted := false }).notify
                (.rolledOver a .ingress r.link ((r.generation + 1) % 256) x.phase x.check c.phase 0 .peer)).pump))
  ∧ ∀ (s : State) (a : AssocId) (after : RecState) (why : Reason),
      (s.emptyRecord a after why).record a = { Record.blank (s.record a).generation with state := after }
      ∧ (∀ a', a' ≠ a → (s.emptyRecord a after why).record a' = s.record a')
      ∧ (∀ d n, ∀ e ∈ ((s.emptyRecord a after why).path d n).queue, e.assoc ≠ some a)
      ∧ ∀ (n : LinkId) (p : Path) (verified : Entry → Bool), n = (s.record a).link → p = s.path .ingress n →
        verified = (fun e => e.state == .verified && e.assoc == some a) →
        ((s.emptyRecord a after why).path .ingress n).queue = p.queue.map (fun e =>
            if e.assoc = some a then
              (if e.state = .verified then { e with state := .dropped why, cells := 0, assoc := none } else { e with assoc := none })
            else e)
        ∧ ((s.emptyRecord a after why).path .ingress n).counters = p.counters.addDiscard why (p.queue.countP verified)
        ∧ ((s.emptyRecord a after why).path .ingress n).free = p.free + ((p.queue.filter verified).map Entry.cells).sum
        ∧ ∀ d m, (d, m) ≠ (.ingress, n) → (s.emptyRecord a after why).path d m
            = { s.path d m with queue := (s.path d m).queue.map fun e => if e.assoc = some a then { e with assoc := none } else e }

/-- R79, R81, R125, R127: at the deadline of a hold that still exists every entry of it is dropped with HOLD-EXPIRED and one notice with
their number is queued; without a hold the deadline passes with nothing to expire. The drop and the notice change no
record; then the heads of the queue settle. That the command brings the clock to the deadline is the model's choice (log 1). -/
def Obligations.HoldsExpire : Prop :=
  ∀ (s : State) (d : Dir) (a : AssocId) (i : Instr) (r : Record) (q : List Entry),
    i = (match d with | .egress => .holdDeadline a | .ingress => .ingressHoldDeadline a) → r = s.record a → q = (s.path d r.link).queue →
    (q.filter (Entry.isHeldOf a) = [] → exec i s = .next s)
    ∧ ∀ (e : Entry) (start due : Nat), q.find? (Entry.isHeldOf a) = some e → e.state = .held start due → ∀ s1 : State,
      s1 = ((s.withNow (max s.now due)).dropEntries d r.link (Entry.isHeldOf a) .holdExpired).notify
        (.holdExpired r.link a r.generation (q.filter (Entry.isHeldOf a)).length) →
      exec i s = .next (s1.finish d r.link)
      ∧ s1.records = s.records
      ∧ (s1.path d r.link).queue = q.map (fun e => if e.isHeldOf a then { e with state := .dropped .holdExpired, cells := 0 } else e)
      ∧ (s1.path d r.link).counters
        = (s.path d r.link).counters.addDiscard .holdExpired (q.filter (Entry.isHeldOf a)).length
      ∧ (s1.path d r.link).free = (s.path d r.link).free + ((q.filter (Entry.isHeldOf a)).map Entry.cells).sum

/-! ### The control line (R160 to R163, R169) -/

/-- R160, R161, R162, R163, R183: the receive line. In HUNT the bytes of a whole request frame put the request in the queue, or have it
answered QUEUE-FULL, or lost; a frame with another CRC or another KIND is discarded; a LENGTH outside 6 to 1030, a gap and a framing error
abandon a frame. While RESET is held the line is ignored. -/
def Obligations.RequestFramesAreQueued : Prop :=
  (∀ (s : State) (q : Request), s.device.state ≠ .inReset → s.control.receiver = .hunt → q.body.length ≤ 1024 →
    ∀ (full : Reply) (c : Control),
      full = { executed := false, tag := q.tag, code := q.code, status := .queueFull, flags := Flags.none, doneCount := 0, body := [] } →
      c = (if s.control.requests.length < 8 then { s.control with requests := s.control.requests ++ [q] }
           else if s.control.refusals < 15 then { s.control with replies := s.control.replies ++ [full] }
           else { s.control with repliesLost := true }) →
      exec (.hostFrameReceived (lineFrame ([0x51, q.tag, q.code, q.repeatCount, q.cond, q.carg] ++ q.body))) s
        = .next (s.withControl c.pump))
  ∧ (∀ (s : State) (content crc : Bytes), s.device.state ≠ .inReset → s.control.receiver = .hunt → 6 ≤ content.length →
      content.length ≤ 1030 → crc.length = 2 → (crc ≠ crc16 (u16 content.length ++ content) ∨ byteAt content 0 ≠ 0x51) →
      exec (.hostFrameReceived ([0xC3] ++ u16 content.length ++ content ++ crc)) s = .next (s.withControl s.control.pump))
  ∧ (∀ (s : State) (len : Nat), s.device.state ≠ .inReset → s.control.receiver = .hunt → (len < 6 ∨ (1030 < len ∧ len < 65536)) →
      exec (.frameLengthOutOfRange ([0xC3] ++ u16 len)) s = .next (s.withControl s.control.pump))
  ∧ (∀ (s : State) (bytes : Bytes) (i : Instr), i = .interByteTimeout bytes ∨ i = .framingError bytes → s.device.state ≠ .inReset →
      exec i s = .next (s.withControl ({ s.control.receiveAll bytes with receiver := .hunt } : Control).pump))
  ∧ (∀ (s : State) (bytes : Bytes) (i : Instr), s.device.state = .inReset →
      i ∈ [.hostFrameReceived bytes, .frameLengthOutOfRange bytes, .interByteTimeout bytes, .framingError bytes] → exec i s = .next s)
  ∧ ∀ c : Control, c.receiver = .hunt → ∀ b, b ≠ 0xC3 → c.receive b = c

/-- R160, R164, R169: the reply of the request at the head echoes its TAG and CODE and the request leaves the queue; whenever the
transmitter is free it begins the oldest reply, or with no reply the oldest notice, each as a line frame; CONTROL_FRAME_SENT frees it. -/
def Obligations.TransmitterSendsRepliesFirst : Prop :=
  (∀ (c : Control) (q : Request) (rest : List Request) (st : Status) (fl : Flags) (k : Nat) (body : Bytes),
    c.requests = q :: rest → c.replies = [] → c.sending = none →
      (c.answer st fl k body).pump
        = { c with requests := rest, exec := .idle,
                   sending := some (lineFrame ([0x52, q.tag, q.code, st.code, fl.code] ++ u8 k ++ body)) })
  ∧ ∀ s : State,
    (∀ r rest, s.control.replies = r :: rest → exec .controlFrameSent s = .next (s.withControl
      { s.control with replies := rest,
                       sending := some (lineFrame ([0x52, r.tag, r.code, r.status.code, r.flags.code] ++ u8 r.doneCount ++ r.body)) }))
    ∧ (s.control.replies = [] → ∀ v rest, s.control.notices = v :: rest → exec .controlFrameSent s = .next (s.withControl
        { s.control with notices := rest, sending := some (lineFrame ([0x53, 0, v.code] ++ v.body)) }))
    ∧ (s.control.replies = [] → s.control.notices = [] → exec .controlFrameSent s
        = .next (s.withControl { s.control with sending := none }))
    ∧ ∀ content : Bytes, lineFrame content = [0xC3] ++ u16 content.length ++ content ++ crc16 (u16 content.length ++ content)
end

