-- ==== Sys2Proof/Laws/State.lean ====
section
/-! SUPPORT. What each write of Machine/Ops.lean leaves in each field of State, and reading back what was written. -/

namespace Sys2Proof.Machine

/-! ### withPending -/

@[simp] theorem State.withPending_pending (s : State) (v : List Instr) : (s.withPending v).pending = v := rfl
@[simp] theorem State.withPending_now (s : State) (v : List Instr) : (s.withPending v).now = s.now := rfl
@[simp] theorem State.withPending_device (s : State) (v : List Instr) : (s.withPending v).device = s.device := rfl
@[simp] theorem State.withPending_records (s : State) (v : List Instr) : (s.withPending v).records = s.records := rfl
@[simp] theorem State.withPending_bank (s : State) (v : List Instr) : (s.withPending v).bank = s.bank := rfl
@[simp] theorem State.withPending_rules (s : State) (v : List Instr) : (s.withPending v).rules = s.rules := rfl
@[simp] theorem State.withPending_flow (s : State) (v : List Instr) : (s.withPending v).flow = s.flow := rfl
@[simp] theorem State.withPending_links (s : State) (v : List Instr) : (s.withPending v).links = s.links := rfl
@[simp] theorem State.withPending_lanes (s : State) (v : List Instr) : (s.withPending v).lanes = s.lanes := rfl
@[simp] theorem State.withPending_lastGrant (s : State) (v : List Instr) : (s.withPending v).lastGrant = s.lastGrant := rfl
@[simp] theorem State.withPending_control (s : State) (v : List Instr) : (s.withPending v).control = s.control := rfl
@[simp] theorem State.withPending_prov (s : State) (v : List Instr) : (s.withPending v).prov = s.prov := rfl

@[simp] theorem State.withPending_twice (s : State) (v w : List Instr) : (s.withPending v).withPending w = s.withPending w := rfl
@[simp] theorem State.withPending_self (s : State) : s.withPending s.pending = s := rfl

/-! ### withNow -/

@[simp] theorem State.withNow_pending (s : State) (v : Nat) : (s.withNow v).pending = s.pending := rfl
@[simp] theorem State.withNow_now (s : State) (v : Nat) : (s.withNow v).now = v := rfl
@[simp] theorem State.withNow_device (s : State) (v : Nat) : (s.withNow v).device = s.device := rfl
@[simp] theorem State.withNow_records (s : State) (v : Nat) : (s.withNow v).records = s.records := rfl
@[simp] theorem State.withNow_bank (s : State) (v : Nat) : (s.withNow v).bank = s.bank := rfl
@[simp] theorem State.withNow_rules (s : State) (v : Nat) : (s.withNow v).rules = s.rules := rfl
@[simp] theorem State.withNow_flow (s : State) (v : Nat) : (s.withNow v).flow = s.flow := rfl
@[simp] theorem State.withNow_links (s : State) (v : Nat) : (s.withNow v).links = s.links := rfl
@[simp] theorem State.withNow_lanes (s : State) (v : Nat) : (s.withNow v).lanes = s.lanes := rfl
@[simp] theorem State.withNow_lastGrant (s : State) (v : Nat) : (s.withNow v).lastGrant = s.lastGrant := rfl
@[simp] theorem State.withNow_control (s : State) (v : Nat) : (s.withNow v).control = s.control := rfl
@[simp] theorem State.withNow_prov (s : State) (v : Nat) : (s.withNow v).prov = s.prov := rfl

@[simp] theorem State.withNow_twice (s : State) (v w : Nat) : (s.withNow v).withNow w = s.withNow w := rfl
@[simp] theorem State.withNow_self (s : State) : s.withNow s.now = s := rfl

/-! ### withDevice -/

@[simp] theorem State.withDevice_pending (s : State) (v : Device) : (s.withDevice v).pending = s.pending := rfl
@[simp] theorem State.withDevice_now (s : State) (v : Device) : (s.withDevice v).now = s.now := rfl
@[simp] theorem State.withDevice_device (s : State) (v : Device) : (s.withDevice v).device = v := rfl
@[simp] theorem State.withDevice_records (s : State) (v : Device) : (s.withDevice v).records = s.records := rfl
@[simp] theorem State.withDevice_bank (s : State) (v : Device) : (s.withDevice v).bank = s.bank := rfl
@[simp] theorem State.withDevice_rules (s : State) (v : Device) : (s.withDevice v).rules = s.rules := rfl
@[simp] theorem State.withDevice_flow (s : State) (v : Device) : (s.withDevice v).flow = s.flow := rfl
@[simp] theorem State.withDevice_links (s : State) (v : Device) : (s.withDevice v).links = s.links := rfl
@[simp] theorem State.withDevice_lanes (s : State) (v : Device) : (s.withDevice v).lanes = s.lanes := rfl
@[simp] theorem State.withDevice_lastGrant (s : State) (v : Device) : (s.withDevice v).lastGrant = s.lastGrant := rfl
@[simp] theorem State.withDevice_control (s : State) (v : Device) : (s.withDevice v).control = s.control := rfl
@[simp] theorem State.withDevice_prov (s : State) (v : Device) : (s.withDevice v).prov = s.prov := rfl

@[simp] theorem State.withDevice_twice (s : State) (v w : Device) : (s.withDevice v).withDevice w = s.withDevice w := rfl
@[simp] theorem State.withDevice_self (s : State) : s.withDevice s.device = s := rfl

/-! ### withRecords -/

@[simp] theorem State.withRecords_pending (s : State) (v : Vector Record 2048) : (s.withRecords v).pending = s.pending := rfl
@[simp] theorem State.withRecords_now (s : State) (v : Vector Record 2048) : (s.withRecords v).now = s.now := rfl
@[simp] theorem State.withRecords_device (s : State) (v : Vector Record 2048) : (s.withRecords v).device = s.device := rfl
@[simp] theorem State.withRecords_records (s : State) (v : Vector Record 2048) : (s.withRecords v).records = v := rfl
@[simp] theorem State.withRecords_bank (s : State) (v : Vector Record 2048) : (s.withRecords v).bank = s.bank := rfl
@[simp] theorem State.withRecords_rules (s : State) (v : Vector Record 2048) : (s.withRecords v).rules = s.rules := rfl
@[simp] theorem State.withRecords_flow (s : State) (v : Vector Record 2048) : (s.withRecords v).flow = s.flow := rfl
@[simp] theorem State.withRecords_links (s : State) (v : Vector Record 2048) : (s.withRecords v).links = s.links := rfl
@[simp] theorem State.withRecords_lanes (s : State) (v : Vector Record 2048) : (s.withRecords v).lanes = s.lanes := rfl
@[simp] theorem State.withRecords_lastGrant (s : State) (v : Vector Record 2048) : (s.withRecords v).lastGrant = s.lastGrant := rfl
@[simp] theorem State.withRecords_control (s : State) (v : Vector Record 2048) : (s.withRecords v).control = s.control := rfl
@[simp] theorem State.withRecords_prov (s : State) (v : Vector Record 2048) : (s.withRecords v).prov = s.prov := rfl

@[simp] theorem State.withRecords_twice (s : State) (v w : Vector Record 2048) : (s.withRecords v).withRecords w = s.withRecords w := rfl
@[simp] theorem State.withRecords_self (s : State) : s.withRecords s.records = s := rfl

/-! ### withBank -/

@[simp] theorem State.withBank_pending (s : State) (v : BankUnit) : (s.withBank v).pending = s.pending := rfl
@[simp] theorem State.withBank_now (s : State) (v : BankUnit) : (s.withBank v).now = s.now := rfl
@[simp] theorem State.withBank_device (s : State) (v : BankUnit) : (s.withBank v).device = s.device := rfl
@[simp] theorem State.withBank_records (s : State) (v : BankUnit) : (s.withBank v).records = s.records := rfl
@[simp] theorem State.withBank_bank (s : State) (v : BankUnit) : (s.withBank v).bank = v := rfl
@[simp] theorem State.withBank_rules (s : State) (v : BankUnit) : (s.withBank v).rules = s.rules := rfl
@[simp] theorem State.withBank_flow (s : State) (v : BankUnit) : (s.withBank v).flow = s.flow := rfl
@[simp] theorem State.withBank_links (s : State) (v : BankUnit) : (s.withBank v).links = s.links := rfl
@[simp] theorem State.withBank_lanes (s : State) (v : BankUnit) : (s.withBank v).lanes = s.lanes := rfl
@[simp] theorem State.withBank_lastGrant (s : State) (v : BankUnit) : (s.withBank v).lastGrant = s.lastGrant := rfl
@[simp] theorem State.withBank_control (s : State) (v : BankUnit) : (s.withBank v).control = s.control := rfl
@[simp] theorem State.withBank_prov (s : State) (v : BankUnit) : (s.withBank v).prov = s.prov := rfl

@[simp] theorem State.withBank_twice (s : State) (v w : BankUnit) : (s.withBank v).withBank w = s.withBank w := rfl
@[simp] theorem State.withBank_self (s : State) : s.withBank s.bank = s := rfl

/-! ### withRules -/

@[simp] theorem State.withRules_pending (s : State) (v : Vector RangeRule 32) : (s.withRules v).pending = s.pending := rfl
@[simp] theorem State.withRules_now (s : State) (v : Vector RangeRule 32) : (s.withRules v).now = s.now := rfl
@[simp] theorem State.withRules_device (s : State) (v : Vector RangeRule 32) : (s.withRules v).device = s.device := rfl
@[simp] theorem State.withRules_records (s : State) (v : Vector RangeRule 32) : (s.withRules v).records = s.records := rfl
@[simp] theorem State.withRules_bank (s : State) (v : Vector RangeRule 32) : (s.withRules v).bank = s.bank := rfl
@[simp] theorem State.withRules_rules (s : State) (v : Vector RangeRule 32) : (s.withRules v).rules = v := rfl
@[simp] theorem State.withRules_flow (s : State) (v : Vector RangeRule 32) : (s.withRules v).flow = s.flow := rfl
@[simp] theorem State.withRules_links (s : State) (v : Vector RangeRule 32) : (s.withRules v).links = s.links := rfl
@[simp] theorem State.withRules_lanes (s : State) (v : Vector RangeRule 32) : (s.withRules v).lanes = s.lanes := rfl
@[simp] theorem State.withRules_lastGrant (s : State) (v : Vector RangeRule 32) : (s.withRules v).lastGrant = s.lastGrant := rfl
@[simp] theorem State.withRules_control (s : State) (v : Vector RangeRule 32) : (s.withRules v).control = s.control := rfl
@[simp] theorem State.withRules_prov (s : State) (v : Vector RangeRule 32) : (s.withRules v).prov = s.prov := rfl

@[simp] theorem State.withRules_twice (s : State) (v w : Vector RangeRule 32) : (s.withRules v).withRules w = s.withRules w := rfl
@[simp] theorem State.withRules_self (s : State) : s.withRules s.rules = s := rfl

/-! ### withFlow -/

@[simp] theorem State.withFlow_pending (s : State) (v : FlowTable) : (s.withFlow v).pending = s.pending := rfl
@[simp] theorem State.withFlow_now (s : State) (v : FlowTable) : (s.withFlow v).now = s.now := rfl
@[simp] theorem State.withFlow_device (s : State) (v : FlowTable) : (s.withFlow v).device = s.device := rfl
@[simp] theorem State.withFlow_records (s : State) (v : FlowTable) : (s.withFlow v).records = s.records := rfl
@[simp] theorem State.withFlow_bank (s : State) (v : FlowTable) : (s.withFlow v).bank = s.bank := rfl
@[simp] theorem State.withFlow_rules (s : State) (v : FlowTable) : (s.withFlow v).rules = s.rules := rfl
@[simp] theorem State.withFlow_flow (s : State) (v : FlowTable) : (s.withFlow v).flow = v := rfl
@[simp] theorem State.withFlow_links (s : State) (v : FlowTable) : (s.withFlow v).links = s.links := rfl
@[simp] theorem State.withFlow_lanes (s : State) (v : FlowTable) : (s.withFlow v).lanes = s.lanes := rfl
@[simp] theorem State.withFlow_lastGrant (s : State) (v : FlowTable) : (s.withFlow v).lastGrant = s.lastGrant := rfl
@[simp] theorem State.withFlow_control (s : State) (v : FlowTable) : (s.withFlow v).control = s.control := rfl
@[simp] theorem State.withFlow_prov (s : State) (v : FlowTable) : (s.withFlow v).prov = s.prov := rfl

@[simp] theorem State.withFlow_twice (s : State) (v w : FlowTable) : (s.withFlow v).withFlow w = s.withFlow w := rfl
@[simp] theorem State.withFlow_self (s : State) : s.withFlow s.flow = s := rfl

/-! ### withLinks -/

@[simp] theorem State.withLinks_pending (s : State) (v : Vector Link 4) : (s.withLinks v).pending = s.pending := rfl
@[simp] theorem State.withLinks_now (s : State) (v : Vector Link 4) : (s.withLinks v).now = s.now := rfl
@[simp] theorem State.withLinks_device (s : State) (v : Vector Link 4) : (s.withLinks v).device = s.device := rfl
@[simp] theorem State.withLinks_records (s : State) (v : Vector Link 4) : (s.withLinks v).records = s.records := rfl
@[simp] theorem State.withLinks_bank (s : State) (v : Vector Link 4) : (s.withLinks v).bank = s.bank := rfl
@[simp] theorem State.withLinks_rules (s : State) (v : Vector Link 4) : (s.withLinks v).rules = s.rules := rfl
@[simp] theorem State.withLinks_flow (s : State) (v : Vector Link 4) : (s.withLinks v).flow = s.flow := rfl
@[simp] theorem State.withLinks_links (s : State) (v : Vector Link 4) : (s.withLinks v).links = v := rfl
@[simp] theorem State.withLinks_lanes (s : State) (v : Vector Link 4) : (s.withLinks v).lanes = s.lanes := rfl
@[simp] theorem State.withLinks_lastGrant (s : State) (v : Vector Link 4) : (s.withLinks v).lastGrant = s.lastGrant := rfl
@[simp] theorem State.withLinks_control (s : State) (v : Vector Link 4) : (s.withLinks v).control = s.control := rfl
@[simp] theorem State.withLinks_prov (s : State) (v : Vector Link 4) : (s.withLinks v).prov = s.prov := rfl

@[simp] theorem State.withLinks_twice (s : State) (v w : Vector Link 4) : (s.withLinks v).withLinks w = s.withLinks w := rfl
@[simp] theorem State.withLinks_self (s : State) : s.withLinks s.links = s := rfl

/-! ### withLanes -/

@[simp] theorem State.withLanes_pending (s : State) (v : Vector Lane 8) : (s.withLanes v).pending = s.pending := rfl
@[simp] theorem State.withLanes_now (s : State) (v : Vector Lane 8) : (s.withLanes v).now = s.now := rfl
@[simp] theorem State.withLanes_device (s : State) (v : Vector Lane 8) : (s.withLanes v).device = s.device := rfl
@[simp] theorem State.withLanes_records (s : State) (v : Vector Lane 8) : (s.withLanes v).records = s.records := rfl
@[simp] theorem State.withLanes_bank (s : State) (v : Vector Lane 8) : (s.withLanes v).bank = s.bank := rfl
@[simp] theorem State.withLanes_rules (s : State) (v : Vector Lane 8) : (s.withLanes v).rules = s.rules := rfl
@[simp] theorem State.withLanes_flow (s : State) (v : Vector Lane 8) : (s.withLanes v).flow = s.flow := rfl
@[simp] theorem State.withLanes_links (s : State) (v : Vector Lane 8) : (s.withLanes v).links = s.links := rfl
@[simp] theorem State.withLanes_lanes (s : State) (v : Vector Lane 8) : (s.withLanes v).lanes = v := rfl
@[simp] theorem State.withLanes_lastGrant (s : State) (v : Vector Lane 8) : (s.withLanes v).lastGrant = s.lastGrant := rfl
@[simp] theorem State.withLanes_control (s : State) (v : Vector Lane 8) : (s.withLanes v).control = s.control := rfl
@[simp] theorem State.withLanes_prov (s : State) (v : Vector Lane 8) : (s.withLanes v).prov = s.prov := rfl

@[simp] theorem State.withLanes_twice (s : State) (v w : Vector Lane 8) : (s.withLanes v).withLanes w = s.withLanes w := rfl
@[simp] theorem State.withLanes_self (s : State) : s.withLanes s.lanes = s := rfl

/-! ### withLastGrant -/

@[simp] theorem State.withLastGrant_pending (s : State) (v : Fin 8) : (s.withLastGrant v).pending = s.pending := rfl
@[simp] theorem State.withLastGrant_now (s : State) (v : Fin 8) : (s.withLastGrant v).now = s.now := rfl
@[simp] theorem State.withLastGrant_device (s : State) (v : Fin 8) : (s.withLastGrant v).device = s.device := rfl
@[simp] theorem State.withLastGrant_records (s : State) (v : Fin 8) : (s.withLastGrant v).records = s.records := rfl
@[simp] theorem State.withLastGrant_bank (s : State) (v : Fin 8) : (s.withLastGrant v).bank = s.bank := rfl
@[simp] theorem State.withLastGrant_rules (s : State) (v : Fin 8) : (s.withLastGrant v).rules = s.rules := rfl
@[simp] theorem State.withLastGrant_flow (s : State) (v : Fin 8) : (s.withLastGrant v).flow = s.flow := rfl
@[simp] theorem State.withLastGrant_links (s : State) (v : Fin 8) : (s.withLastGrant v).links = s.links := rfl
@[simp] theorem State.withLastGrant_lanes (s : State) (v : Fin 8) : (s.withLastGrant v).lanes = s.lanes := rfl
@[simp] theorem State.withLastGrant_lastGrant (s : State) (v : Fin 8) : (s.withLastGrant v).lastGrant = v := rfl
@[simp] theorem State.withLastGrant_control (s : State) (v : Fin 8) : (s.withLastGrant v).control = s.control := rfl
@[simp] theorem State.withLastGrant_prov (s : State) (v : Fin 8) : (s.withLastGrant v).prov = s.prov := rfl

@[simp] theorem State.withLastGrant_twice (s : State) (v w : Fin 8) : (s.withLastGrant v).withLastGrant w = s.withLastGrant w := rfl
@[simp] theorem State.withLastGrant_self (s : State) : s.withLastGrant s.lastGrant = s := rfl

/-! ### withControl -/

@[simp] theorem State.withControl_pending (s : State) (v : Control) : (s.withControl v).pending = s.pending := rfl
@[simp] theorem State.withControl_now (s : State) (v : Control) : (s.withControl v).now = s.now := rfl
@[simp] theorem State.withControl_device (s : State) (v : Control) : (s.withControl v).device = s.device := rfl
@[simp] theorem State.withControl_records (s : State) (v : Control) : (s.withControl v).records = s.records := rfl
@[simp] theorem State.withControl_bank (s : State) (v : Control) : (s.withControl v).bank = s.bank := rfl
@[simp] theorem State.withControl_rules (s : State) (v : Control) : (s.withControl v).rules = s.rules := rfl
@[simp] theorem State.withControl_flow (s : State) (v : Control) : (s.withControl v).flow = s.flow := rfl
@[simp] theorem State.withControl_links (s : State) (v : Control) : (s.withControl v).links = s.links := rfl
@[simp] theorem State.withControl_lanes (s : State) (v : Control) : (s.withControl v).lanes = s.lanes := rfl
@[simp] theorem State.withControl_lastGrant (s : State) (v : Control) : (s.withControl v).lastGrant = s.lastGrant := rfl
@[simp] theorem State.withControl_control (s : State) (v : Control) : (s.withControl v).control = v := rfl
@[simp] theorem State.withControl_prov (s : State) (v : Control) : (s.withControl v).prov = s.prov := rfl

@[simp] theorem State.withControl_twice (s : State) (v w : Control) : (s.withControl v).withControl w = s.withControl w := rfl
@[simp] theorem State.withControl_self (s : State) : s.withControl s.control = s := rfl

/-! ### withProv -/

@[simp] theorem State.withProv_pending (s : State) (v : Provisioning) : (s.withProv v).pending = s.pending := rfl
@[simp] theorem State.withProv_now (s : State) (v : Provisioning) : (s.withProv v).now = s.now := rfl
@[simp] theorem State.withProv_device (s : State) (v : Provisioning) : (s.withProv v).device = s.device := rfl
@[simp] theorem State.withProv_records (s : State) (v : Provisioning) : (s.withProv v).records = s.records := rfl
@[simp] theorem State.withProv_bank (s : State) (v : Provisioning) : (s.withProv v).bank = s.bank := rfl
@[simp] theorem State.withProv_rules (s : State) (v : Provisioning) : (s.withProv v).rules = s.rules := rfl
@[simp] theorem State.withProv_flow (s : State) (v : Provisioning) : (s.withProv v).flow = s.flow := rfl
@[simp] theorem State.withProv_links (s : State) (v : Provisioning) : (s.withProv v).links = s.links := rfl
@[simp] theorem State.withProv_lanes (s : State) (v : Provisioning) : (s.withProv v).lanes = s.lanes := rfl
@[simp] theorem State.withProv_lastGrant (s : State) (v : Provisioning) : (s.withProv v).lastGrant = s.lastGrant := rfl
@[simp] theorem State.withProv_control (s : State) (v : Provisioning) : (s.withProv v).control = s.control := rfl
@[simp] theorem State.withProv_prov (s : State) (v : Provisioning) : (s.withProv v).prov = v := rfl

@[simp] theorem State.withProv_twice (s : State) (v w : Provisioning) : (s.withProv v).withProv w = s.withProv w := rfl
@[simp] theorem State.withProv_self (s : State) : s.withProv s.prov = s := rfl

/-! ### setRecord -/

@[simp] theorem State.setRecord_pending (s : State) (a : AssocId) (r : Record) : (s.setRecord a r).pending = s.pending := rfl
@[simp] theorem State.setRecord_now (s : State) (a : AssocId) (r : Record) : (s.setRecord a r).now = s.now := rfl
@[simp] theorem State.setRecord_device (s : State) (a : AssocId) (r : Record) : (s.setRecord a r).device = s.device := rfl
@[simp] theorem State.setRecord_bank (s : State) (a : AssocId) (r : Record) : (s.setRecord a r).bank = s.bank := rfl
@[simp] theorem State.setRecord_rules (s : State) (a : AssocId) (r : Record) : (s.setRecord a r).rules = s.rules := rfl
@[simp] theorem State.setRecord_flow (s : State) (a : AssocId) (r : Record) : (s.setRecord a r).flow = s.flow := rfl
@[simp] theorem State.setRecord_links (s : State) (a : AssocId) (r : Record) : (s.setRecord a r).links = s.links := rfl
@[simp] theorem State.setRecord_lanes (s : State) (a : AssocId) (r : Record) : (s.setRecord a r).lanes = s.lanes := rfl
@[simp] theorem State.setRecord_lastGrant (s : State) (a : AssocId) (r : Record) : (s.setRecord a r).lastGrant = s.lastGrant := rfl
@[simp] theorem State.setRecord_control (s : State) (a : AssocId) (r : Record) : (s.setRecord a r).control = s.control := rfl
@[simp] theorem State.setRecord_prov (s : State) (a : AssocId) (r : Record) : (s.setRecord a r).prov = s.prov := rfl

/-! ### setLink -/

@[simp] theorem State.setLink_pending (s : State) (n : LinkId) (l : Link) : (s.setLink n l).pending = s.pending := rfl
@[simp] theorem State.setLink_now (s : State) (n : LinkId) (l : Link) : (s.setLink n l).now = s.now := rfl
@[simp] theorem State.setLink_device (s : State) (n : LinkId) (l : Link) : (s.setLink n l).device = s.device := rfl
@[simp] theorem State.setLink_records (s : State) (n : LinkId) (l : Link) : (s.setLink n l).records = s.records := rfl
@[simp] theorem State.setLink_bank (s : State) (n : LinkId) (l : Link) : (s.setLink n l).bank = s.bank := rfl
@[simp] theorem State.setLink_rules (s : State) (n : LinkId) (l : Link) : (s.setLink n l).rules = s.rules := rfl
@[simp] theorem State.setLink_flow (s : State) (n : LinkId) (l : Link) : (s.setLink n l).flow = s.flow := rfl
@[simp] theorem State.setLink_lanes (s : State) (n : LinkId) (l : Link) : (s.setLink n l).lanes = s.lanes := rfl
@[simp] theorem State.setLink_lastGrant (s : State) (n : LinkId) (l : Link) : (s.setLink n l).lastGrant = s.lastGrant := rfl
@[simp] theorem State.setLink_control (s : State) (n : LinkId) (l : Link) : (s.setLink n l).control = s.control := rfl
@[simp] theorem State.setLink_prov (s : State) (n : LinkId) (l : Link) : (s.setLink n l).prov = s.prov := rfl

/-! ### setLane -/

@[simp] theorem State.setLane_pending (s : State) (l : LaneId) (v : Lane) : (s.setLane l v).pending = s.pending := rfl
@[simp] theorem State.setLane_now (s : State) (l : LaneId) (v : Lane) : (s.setLane l v).now = s.now := rfl
@[simp] theorem State.setLane_device (s : State) (l : LaneId) (v : Lane) : (s.setLane l v).device = s.device := rfl
@[simp] theorem State.setLane_records (s : State) (l : LaneId) (v : Lane) : (s.setLane l v).records = s.records := rfl
@[simp] theorem State.setLane_bank (s : State) (l : LaneId) (v : Lane) : (s.setLane l v).bank = s.bank := rfl
@[simp] theorem State.setLane_rules (s : State) (l : LaneId) (v : Lane) : (s.setLane l v).rules = s.rules := rfl
@[simp] theorem State.setLane_flow (s : State) (l : LaneId) (v : Lane) : (s.setLane l v).flow = s.flow := rfl
@[simp] theorem State.setLane_links (s : State) (l : LaneId) (v : Lane) : (s.setLane l v).links = s.links := rfl
@[simp] theorem State.setLane_lastGrant (s : State) (l : LaneId) (v : Lane) : (s.setLane l v).lastGrant = s.lastGrant := rfl
@[simp] theorem State.setLane_control (s : State) (l : LaneId) (v : Lane) : (s.setLane l v).control = s.control := rfl
@[simp] theorem State.setLane_prov (s : State) (l : LaneId) (v : Lane) : (s.setLane l v).prov = s.prov := rfl

/-! ### setPath -/

@[simp] theorem State.setPath_pending (s : State) (d : Dir) (n : LinkId) (p : Path) : (s.setPath d n p).pending = s.pending := rfl
@[simp] theorem State.setPath_now (s : State) (d : Dir) (n : LinkId) (p : Path) : (s.setPath d n p).now = s.now := rfl
@[simp] theorem State.setPath_device (s : State) (d : Dir) (n : LinkId) (p : Path) : (s.setPath d n p).device = s.device := rfl
@[simp] theorem State.setPath_records (s : State) (d : Dir) (n : LinkId) (p : Path) : (s.setPath d n p).records = s.records := rfl
@[simp] theorem State.setPath_bank (s : State) (d : Dir) (n : LinkId) (p : Path) : (s.setPath d n p).bank = s.bank := rfl
@[simp] theorem State.setPath_rules (s : State) (d : Dir) (n : LinkId) (p : Path) : (s.setPath d n p).rules = s.rules := rfl
@[simp] theorem State.setPath_flow (s : State) (d : Dir) (n : LinkId) (p : Path) : (s.setPath d n p).flow = s.flow := rfl
@[simp] theorem State.setPath_lanes (s : State) (d : Dir) (n : LinkId) (p : Path) : (s.setPath d n p).lanes = s.lanes := rfl
@[simp] theorem State.setPath_lastGrant (s : State) (d : Dir) (n : LinkId) (p : Path) : (s.setPath d n p).lastGrant = s.lastGrant := rfl
@[simp] theorem State.setPath_control (s : State) (d : Dir) (n : LinkId) (p : Path) : (s.setPath d n p).control = s.control := rfl
@[simp] theorem State.setPath_prov (s : State) (d : Dir) (n : LinkId) (p : Path) : (s.setPath d n p).prov = s.prov := rfl

/-! ### setPort -/

@[simp] theorem State.setPort_pending (s : State) (side : Side) (n : LinkId) (p : Port) : (s.setPort side n p).pending = s.pending := rfl
@[simp] theorem State.setPort_now (s : State) (side : Side) (n : LinkId) (p : Port) : (s.setPort side n p).now = s.now := rfl
@[simp] theorem State.setPort_device (s : State) (side : Side) (n : LinkId) (p : Port) : (s.setPort side n p).device = s.device := rfl
@[simp] theorem State.setPort_records (s : State) (side : Side) (n : LinkId) (p : Port) : (s.setPort side n p).records = s.records := rfl
@[simp] theorem State.setPort_bank (s : State) (side : Side) (n : LinkId) (p : Port) : (s.setPort side n p).bank = s.bank := rfl
@[simp] theorem State.setPort_rules (s : State) (side : Side) (n : LinkId) (p : Port) : (s.setPort side n p).rules = s.rules := rfl
@[simp] theorem State.setPort_flow (s : State) (side : Side) (n : LinkId) (p : Port) : (s.setPort side n p).flow = s.flow := rfl
@[simp] theorem State.setPort_lanes (s : State) (side : Side) (n : LinkId) (p : Port) : (s.setPort side n p).lanes = s.lanes := rfl
@[simp] theorem State.setPort_lastGrant (s : State) (side : Side) (n : LinkId) (p : Port) : (s.setPort side n p).lastGrant = s.lastGrant := rfl
@[simp] theorem State.setPort_control (s : State) (side : Side) (n : LinkId) (p : Port) : (s.setPort side n p).control = s.control := rfl
@[simp] theorem State.setPort_prov (s : State) (side : Side) (n : LinkId) (p : Port) : (s.setPort side n p).prov = s.prov := rfl

/-! ### setQueue -/

@[simp] theorem State.setQueue_pending (s : State) (d : Dir) (n : LinkId) (q : List Entry) : (s.setQueue d n q).pending = s.pending := rfl
@[simp] theorem State.setQueue_now (s : State) (d : Dir) (n : LinkId) (q : List Entry) : (s.setQueue d n q).now = s.now := rfl
@[simp] theorem State.setQueue_device (s : State) (d : Dir) (n : LinkId) (q : List Entry) : (s.setQueue d n q).device = s.device := rfl
@[simp] theorem State.setQueue_records (s : State) (d : Dir) (n : LinkId) (q : List Entry) : (s.setQueue d n q).records = s.records := rfl
@[simp] theorem State.setQueue_bank (s : State) (d : Dir) (n : LinkId) (q : List Entry) : (s.setQueue d n q).bank = s.bank := rfl
@[simp] theorem State.setQueue_rules (s : State) (d : Dir) (n : LinkId) (q : List Entry) : (s.setQueue d n q).rules = s.rules := rfl
@[simp] theorem State.setQueue_flow (s : State) (d : Dir) (n : LinkId) (q : List Entry) : (s.setQueue d n q).flow = s.flow := rfl
@[simp] theorem State.setQueue_lanes (s : State) (d : Dir) (n : LinkId) (q : List Entry) : (s.setQueue d n q).lanes = s.lanes := rfl
@[simp] theorem State.setQueue_lastGrant (s : State) (d : Dir) (n : LinkId) (q : List Entry) : (s.setQueue d n q).lastGrant = s.lastGrant := rfl
@[simp] theorem State.setQueue_control (s : State) (d : Dir) (n : LinkId) (q : List Entry) : (s.setQueue d n q).control = s.control := rfl
@[simp] theorem State.setQueue_prov (s : State) (d : Dir) (n : LinkId) (q : List Entry) : (s.setQueue d n q).prov = s.prov := rfl

/-! ### countDrop -/

@[simp] theorem State.countDrop_pending (s : State) (d : Dir) (n : LinkId) (why : Reason) (k : Nat) : (s.countDrop d n why k).pending = s.pending := rfl
@[simp] theorem State.countDrop_now (s : State) (d : Dir) (n : LinkId) (why : Reason) (k : Nat) : (s.countDrop d n why k).now = s.now := rfl
@[simp] theorem State.countDrop_device (s : State) (d : Dir) (n : LinkId) (why : Reason) (k : Nat) : (s.countDrop d n why k).device = s.device := rfl
@[simp] theorem State.countDrop_records (s : State) (d : Dir) (n : LinkId) (why : Reason) (k : Nat) : (s.countDrop d n why k).records = s.records := rfl
@[simp] theorem State.countDrop_bank (s : State) (d : Dir) (n : LinkId) (why : Reason) (k : Nat) : (s.countDrop d n why k).bank = s.bank := rfl
@[simp] theorem State.countDrop_rules (s : State) (d : Dir) (n : LinkId) (why : Reason) (k : Nat) : (s.countDrop d n why k).rules = s.rules := rfl
@[simp] theorem State.countDrop_flow (s : State) (d : Dir) (n : LinkId) (why : Reason) (k : Nat) : (s.countDrop d n why k).flow = s.flow := rfl
@[simp] theorem State.countDrop_lanes (s : State) (d : Dir) (n : LinkId) (why : Reason) (k : Nat) : (s.countDrop d n why k).lanes = s.lanes := rfl
@[simp] theorem State.countDrop_lastGrant (s : State) (d : Dir) (n : LinkId) (why : Reason) (k : Nat) : (s.countDrop d n why k).lastGrant = s.lastGrant := rfl
@[simp] theorem State.countDrop_control (s : State) (d : Dir) (n : LinkId) (why : Reason) (k : Nat) : (s.countDrop d n why k).control = s.control := rfl
@[simp] theorem State.countDrop_prov (s : State) (d : Dir) (n : LinkId) (why : Reason) (k : Nat) : (s.countDrop d n why k).prov = s.prov := rfl

/-! ### append -/

@[simp] theorem State.append_pending (s : State) (d : Dir) (n : LinkId) (e : Entry) : (s.append d n e).pending = s.pending := rfl
@[simp] theorem State.append_now (s : State) (d : Dir) (n : LinkId) (e : Entry) : (s.append d n e).now = s.now := rfl
@[simp] theorem State.append_device (s : State) (d : Dir) (n : LinkId) (e : Entry) : (s.append d n e).device = s.device := rfl
@[simp] theorem State.append_records (s : State) (d : Dir) (n : LinkId) (e : Entry) : (s.append d n e).records = s.records := rfl
@[simp] theorem State.append_bank (s : State) (d : Dir) (n : LinkId) (e : Entry) : (s.append d n e).bank = s.bank := rfl
@[simp] theorem State.append_rules (s : State) (d : Dir) (n : LinkId) (e : Entry) : (s.append d n e).rules = s.rules := rfl
@[simp] theorem State.append_flow (s : State) (d : Dir) (n : LinkId) (e : Entry) : (s.append d n e).flow = s.flow := rfl
@[simp] theorem State.append_lanes (s : State) (d : Dir) (n : LinkId) (e : Entry) : (s.append d n e).lanes = s.lanes := rfl
@[simp] theorem State.append_lastGrant (s : State) (d : Dir) (n : LinkId) (e : Entry) : (s.append d n e).lastGrant = s.lastGrant := rfl
@[simp] theorem State.append_control (s : State) (d : Dir) (n : LinkId) (e : Entry) : (s.append d n e).control = s.control := rfl
@[simp] theorem State.append_prov (s : State) (d : Dir) (n : LinkId) (e : Entry) : (s.append d n e).prov = s.prov := rfl

/-! ### popHead -/

@[simp] theorem State.popHead_pending (s : State) (d : Dir) (n : LinkId) : (s.popHead d n).pending = s.pending := rfl
@[simp] theorem State.popHead_now (s : State) (d : Dir) (n : LinkId) : (s.popHead d n).now = s.now := rfl
@[simp] theorem State.popHead_device (s : State) (d : Dir) (n : LinkId) : (s.popHead d n).device = s.device := rfl
@[simp] theorem State.popHead_records (s : State) (d : Dir) (n : LinkId) : (s.popHead d n).records = s.records := rfl
@[simp] theorem State.popHead_bank (s : State) (d : Dir) (n : LinkId) : (s.popHead d n).bank = s.bank := rfl
@[simp] theorem State.popHead_rules (s : State) (d : Dir) (n : LinkId) : (s.popHead d n).rules = s.rules := rfl
@[simp] theorem State.popHead_flow (s : State) (d : Dir) (n : LinkId) : (s.popHead d n).flow = s.flow := rfl
@[simp] theorem State.popHead_lanes (s : State) (d : Dir) (n : LinkId) : (s.popHead d n).lanes = s.lanes := rfl
@[simp] theorem State.popHead_lastGrant (s : State) (d : Dir) (n : LinkId) : (s.popHead d n).lastGrant = s.lastGrant := rfl
@[simp] theorem State.popHead_control (s : State) (d : Dir) (n : LinkId) : (s.popHead d n).control = s.control := rfl
@[simp] theorem State.popHead_prov (s : State) (d : Dir) (n : LinkId) : (s.popHead d n).prov = s.prov := rfl

/-! ### notify -/

@[simp] theorem State.notify_pending (s : State) (v : Notice) : (s.notify v).pending = s.pending := rfl
@[simp] theorem State.notify_now (s : State) (v : Notice) : (s.notify v).now = s.now := rfl
@[simp] theorem State.notify_device (s : State) (v : Notice) : (s.notify v).device = s.device := rfl
@[simp] theorem State.notify_records (s : State) (v : Notice) : (s.notify v).records = s.records := rfl
@[simp] theorem State.notify_bank (s : State) (v : Notice) : (s.notify v).bank = s.bank := rfl
@[simp] theorem State.notify_rules (s : State) (v : Notice) : (s.notify v).rules = s.rules := rfl
@[simp] theorem State.notify_flow (s : State) (v : Notice) : (s.notify v).flow = s.flow := rfl
@[simp] theorem State.notify_links (s : State) (v : Notice) : (s.notify v).links = s.links := rfl
@[simp] theorem State.notify_lanes (s : State) (v : Notice) : (s.notify v).lanes = s.lanes := rfl
@[simp] theorem State.notify_lastGrant (s : State) (v : Notice) : (s.notify v).lastGrant = s.lastGrant := rfl
@[simp] theorem State.notify_prov (s : State) (v : Notice) : (s.notify v).prov = s.prov := rfl

/-! ### Reading back -/

@[simp] theorem State.record_setRecord_same (s : State) (a : AssocId) (r : Record) : (s.setRecord a r).record a = r := by
  simp [State.record, State.setRecord]

theorem State.record_setRecord_ne (s : State) {a b : AssocId} (r : Record) (h : b ≠ a) : (s.setRecord a r).record b = s.record b := by
  have : a.val ≠ b.val := fun e => h (Fin.ext e.symm)
  simp [State.record, State.setRecord, this]

@[simp] theorem State.link_setLink_same (s : State) (n : LinkId) (l : Link) : (s.setLink n l).link n = l := by
  simp [State.link, State.setLink]

theorem State.link_setLink_ne (s : State) {n m : LinkId} (l : Link) (h : m ≠ n) : (s.setLink n l).link m = s.link m := by
  have : n.val ≠ m.val := fun e => h (Fin.ext e.symm)
  simp [State.link, State.setLink, this]

@[simp] theorem State.lane_setLane_same (s : State) (l : LaneId) (v : Lane) : (s.setLane l v).lane l = v := by
  simp [State.lane, State.setLane]

theorem State.lane_setLane_ne (s : State) {l m : LaneId} (v : Lane) (h : m ≠ l) : (s.setLane l v).lane m = s.lane m := by
  have : l.val ≠ m.val := fun e => h (Fin.ext e.symm)
  simp [State.lane, State.setLane, this]

@[simp] theorem Link.path_setPath_same (l : Link) (d : Dir) (p : Path) : (l.setPath d p).path d = p := by cases d <;> rfl

theorem Link.path_setPath_ne (l : Link) {d e : Dir} (p : Path) (h : e ≠ d) : (l.setPath d p).path e = l.path e := by
  cases d <;> cases e <;> first | rfl | exact absurd rfl h

@[simp] theorem Link.port_setPort_same (l : Link) (side : Side) (p : Port) : (l.setPort side p).port side = p := by cases side <;> rfl

theorem Link.port_setPort_ne (l : Link) {a b : Side} (p : Port) (h : b ≠ a) : (l.setPort a p).port b = l.port b := by
  cases a <;> cases b <;> first | rfl | exact absurd rfl h

@[simp] theorem Link.path_setPort (l : Link) (side : Side) (p : Port) (d : Dir) : (l.setPort side p).path d = l.path d := by
  cases side <;> cases d <;> rfl

@[simp] theorem Link.port_setPath (l : Link) (side : Side) (p : Path) (d : Dir) : (l.setPath d p).port side = l.port side := by
  cases side <;> cases d <;> rfl

@[simp] theorem Link.setPath_params (l : Link) (d : Dir) (p : Path) : (l.setPath d p).params = l.params := by cases d <;> rfl
@[simp] theorem Link.setPath_mode (l : Link) (d : Dir) (p : Path) : (l.setPath d p).mode = l.mode := by cases d <;> rfl
@[simp] theorem Link.setPath_cover (l : Link) (d : Dir) (p : Path) : (l.setPath d p).cover = l.cover := by cases d <;> rfl
@[simp] theorem Link.setPort_params (l : Link) (a : Side) (p : Port) : (l.setPort a p).params = l.params := by cases a <;> rfl
@[simp] theorem Link.setPort_mode (l : Link) (a : Side) (p : Port) : (l.setPort a p).mode = l.mode := by cases a <;> rfl
@[simp] theorem Link.setPort_cover (l : Link) (a : Side) (p : Port) : (l.setPort a p).cover = l.cover := by cases a <;> rfl

@[simp] theorem State.path_setPath_same (s : State) (d : Dir) (n : LinkId) (p : Path) : (s.setPath d n p).path d n = p := by
  simp [State.path, State.setPath]

theorem State.path_setPath_ne (s : State) {d e : Dir} {n m : LinkId} (p : Path) (h : (e, m) ≠ (d, n)) :
    (s.setPath d n p).path e m = s.path e m := by
  by_cases hm : m = n
  · subst hm
    have he : e ≠ d := fun he => h (by rw [he])
    simp [State.path, State.setPath, Link.path_setPath_ne _ _ he]
  · simp [State.path, State.setPath, State.link_setLink_ne _ _ hm]

@[simp] theorem State.port_setPort_same (s : State) (a : Side) (n : LinkId) (p : Port) : (s.setPort a n p).port a n = p := by
  simp [State.port, State.setPort]

theorem State.port_setPort_ne (s : State) {a b : Side} {n m : LinkId} (p : Port) (h : (b, m) ≠ (a, n)) :
    (s.setPort a n p).port b m = s.port b m := by
  by_cases hm : m = n
  · subst hm
    have hb : b ≠ a := fun hb => h (by rw [hb])
    simp [State.port, State.setPort, Link.port_setPort_ne _ _ hb]
  · simp [State.port, State.setPort, State.link_setLink_ne _ _ hm]

@[simp] theorem State.path_setPort (s : State) (a : Side) (n m : LinkId) (p : Port) (d : Dir) :
    (s.setPort a n p).path d m = s.path d m := by
  by_cases hm : m = n
  · subst hm; simp [State.path, State.setPort]
  · simp [State.path, State.setPort, State.link_setLink_ne _ _ hm]

@[simp] theorem State.port_setPath (s : State) (a : Side) (n m : LinkId) (p : Path) (d : Dir) :
    (s.setPath d n p).port a m = s.port a m := by
  by_cases hm : m = n
  · subst hm; simp [State.port, State.setPath]
  · simp [State.port, State.setPath, State.link_setLink_ne _ _ hm]

@[simp] theorem State.params_setPath (s : State) (n m : LinkId) (p : Path) (d : Dir) : (s.setPath d n p).params m = s.params m := by
  by_cases hm : m = n
  · subst hm; simp [State.params, State.setPath]
  · simp [State.params, State.setPath, State.link_setLink_ne _ _ hm]

@[simp] theorem State.params_setPort (s : State) (n m : LinkId) (p : Port) (a : Side) : (s.setPort a n p).params m = s.params m := by
  by_cases hm : m = n
  · subst hm; simp [State.params, State.setPort]
  · simp [State.params, State.setPort, State.link_setLink_ne _ _ hm]

/-! ### Records, links, lanes, paths and ports through writes of other fields -/

@[simp] theorem State.record_withPending (s : State) (v : List Instr) (a : AssocId) : (s.withPending v).record a = s.record a := rfl
@[simp] theorem State.record_withNow (s : State) (v : Nat) (a : AssocId) : (s.withNow v).record a = s.record a := rfl
@[simp] theorem State.record_withDevice (s : State) (v : Device) (a : AssocId) : (s.withDevice v).record a = s.record a := rfl
@[simp] theorem State.record_withBank (s : State) (v : BankUnit) (a : AssocId) : (s.withBank v).record a = s.record a := rfl
@[simp] theorem State.record_withRules (s : State) (v : Vector RangeRule 32) (a : AssocId) : (s.withRules v).record a = s.record a := rfl
@[simp] theorem State.record_withFlow (s : State) (v : FlowTable) (a : AssocId) : (s.withFlow v).record a = s.record a := rfl
@[simp] theorem State.record_withLinks (s : State) (v : Vector Link 4) (a : AssocId) : (s.withLinks v).record a = s.record a := rfl
@[simp] theorem State.record_withLanes (s : State) (v : Vector Lane 8) (a : AssocId) : (s.withLanes v).record a = s.record a := rfl
@[simp] theorem State.record_withLastGrant (s : State) (v : Fin 8) (a : AssocId) : (s.withLastGrant v).record a = s.record a := rfl
@[simp] theorem State.record_withControl (s : State) (v : Control) (a : AssocId) : (s.withControl v).record a = s.record a := rfl
@[simp] theorem State.record_withProv (s : State) (v : Provisioning) (a : AssocId) : (s.withProv v).record a = s.record a := rfl
@[simp] theorem State.record_setLane (s : State) (m : LaneId) (v : Lane) (a : AssocId) : (s.setLane m v).record a = s.record a := rfl
@[simp] theorem State.record_notify (s : State) (v : Notice) (a : AssocId) : (s.notify v).record a = s.record a := rfl
@[simp] theorem State.record_setLink (s : State) (m : LinkId) (v : Link) (a : AssocId) : (s.setLink m v).record a = s.record a := rfl
@[simp] theorem State.record_setPath (s : State) (e : Dir) (m : LinkId) (p : Path) (a : AssocId) : (s.setPath e m p).record a = s.record a := rfl
@[simp] theorem State.record_setPort (s : State) (x : Side) (m : LinkId) (p : Port) (a : AssocId) : (s.setPort x m p).record a = s.record a := rfl

@[simp] theorem State.lane_withPending (s : State) (v : List Instr) (l : LaneId) : (s.withPending v).lane l = s.lane l := rfl
@[simp] theorem State.lane_withNow (s : State) (v : Nat) (l : LaneId) : (s.withNow v).lane l = s.lane l := rfl
@[simp] theorem State.lane_withDevice (s : State) (v : Device) (l : LaneId) : (s.withDevice v).lane l = s.lane l := rfl
@[simp] theorem State.lane_withRecords (s : State) (v : Vector Record 2048) (l : LaneId) : (s.withRecords v).lane l = s.lane l := rfl
@[simp] theorem State.lane_withBank (s : State) (v : BankUnit) (l : LaneId) : (s.withBank v).lane l = s.lane l := rfl
@[simp] theorem State.lane_withRules (s : State) (v : Vector RangeRule 32) (l : LaneId) : (s.withRules v).lane l = s.lane l := rfl
@[simp] theorem State.lane_withFlow (s : State) (v : FlowTable) (l : LaneId) : (s.withFlow v).lane l = s.lane l := rfl
@[simp] theorem State.lane_withLinks (s : State) (v : Vector Link 4) (l : LaneId) : (s.withLinks v).lane l = s.lane l := rfl
@[simp] theorem State.lane_withLastGrant (s : State) (v : Fin 8) (l : LaneId) : (s.withLastGrant v).lane l = s.lane l := rfl
@[simp] theorem State.lane_withControl (s : State) (v : Control) (l : LaneId) : (s.withControl v).lane l = s.lane l := rfl
@[simp] theorem State.lane_withProv (s : State) (v : Provisioning) (l : LaneId) : (s.withProv v).lane l = s.lane l := rfl
@[simp] theorem State.lane_setRecord (s : State) (b : AssocId) (r : Record) (l : LaneId) : (s.setRecord b r).lane l = s.lane l := rfl
@[simp] theorem State.lane_notify (s : State) (v : Notice) (l : LaneId) : (s.notify v).lane l = s.lane l := rfl
@[simp] theorem State.lane_setLink (s : State) (m : LinkId) (v : Link) (l : LaneId) : (s.setLink m v).lane l = s.lane l := rfl
@[simp] theorem State.lane_setPath (s : State) (e : Dir) (m : LinkId) (p : Path) (l : LaneId) : (s.setPath e m p).lane l = s.lane l := rfl
@[simp] theorem State.lane_setPort (s : State) (x : Side) (m : LinkId) (p : Port) (l : LaneId) : (s.setPort x m p).lane l = s.lane l := rfl

@[simp] theorem State.link_withPending (s : State) (v : List Instr) (n : LinkId) : (s.withPending v).link n = s.link n := rfl
@[simp] theorem State.link_withNow (s : State) (v : Nat) (n : LinkId) : (s.withNow v).link n = s.link n := rfl
@[simp] theorem State.link_withDevice (s : State) (v : Device) (n : LinkId) : (s.withDevice v).link n = s.link n := rfl
@[simp] theorem State.link_withRecords (s : State) (v : Vector Record 2048) (n : LinkId) : (s.withRecords v).link n = s.link n := rfl
@[simp] theorem State.link_withBank (s : State) (v : BankUnit) (n : LinkId) : (s.withBank v).link n = s.link n := rfl
@[simp] theorem State.link_withRules (s : State) (v : Vector RangeRule 32) (n : LinkId) : (s.withRules v).link n = s.link n := rfl
@[simp] theorem State.link_withFlow (s : State) (v : FlowTable) (n : LinkId) : (s.withFlow v).link n = s.link n := rfl
@[simp] theorem State.link_withLanes (s : State) (v : Vector Lane 8) (n : LinkId) : (s.withLanes v).link n = s.link n := rfl
@[simp] theorem State.link_withLastGrant (s : State) (v : Fin 8) (n : LinkId) : (s.withLastGrant v).link n = s.link n := rfl
@[simp] theorem State.link_withControl (s : State) (v : Control) (n : LinkId) : (s.withControl v).link n = s.link n := rfl
@[simp] theorem State.link_withProv (s : State) (v : Provisioning) (n : LinkId) : (s.withProv v).link n = s.link n := rfl
@[simp] theorem State.link_setRecord (s : State) (b : AssocId) (r : Record) (n : LinkId) : (s.setRecord b r).link n = s.link n := rfl
@[simp] theorem State.link_setLane (s : State) (m : LaneId) (v : Lane) (n : LinkId) : (s.setLane m v).link n = s.link n := rfl
@[simp] theorem State.link_notify (s : State) (v : Notice) (n : LinkId) : (s.notify v).link n = s.link n := rfl

@[simp] theorem State.path_withPending (s : State) (v : List Instr) (d : Dir) (n : LinkId) : (s.withPending v).path d n = s.path d n := rfl
@[simp] theorem State.path_withNow (s : State) (v : Nat) (d : Dir) (n : LinkId) : (s.withNow v).path d n = s.path d n := rfl
@[simp] theorem State.path_withDevice (s : State) (v : Device) (d : Dir) (n : LinkId) : (s.withDevice v).path d n = s.path d n := rfl
@[simp] theorem State.path_withRecords (s : State) (v : Vector Record 2048) (d : Dir) (n : LinkId) : (s.withRecords v).path d n = s.path d n := rfl
@[simp] theorem State.path_withBank (s : State) (v : BankUnit) (d : Dir) (n : LinkId) : (s.withBank v).path d n = s.path d n := rfl
@[simp] theorem State.path_withRules (s : State) (v : Vector RangeRule 32) (d : Dir) (n : LinkId) : (s.withRules v).path d n = s.path d n := rfl
@[simp] theorem State.path_withFlow (s : State) (v : FlowTable) (d : Dir) (n : LinkId) : (s.withFlow v).path d n = s.path d n := rfl
@[simp] theorem State.path_withLanes (s : State) (v : Vector Lane 8) (d : Dir) (n : LinkId) : (s.withLanes v).path d n = s.path d n := rfl
@[simp] theorem State.path_withLastGrant (s : State) (v : Fin 8) (d : Dir) (n : LinkId) : (s.withLastGrant v).path d n = s.path d n := rfl
@[simp] theorem State.path_withControl (s : State) (v : Control) (d : Dir) (n : LinkId) : (s.withControl v).path d n = s.path d n := rfl
@[simp] theorem State.path_withProv (s : State) (v : Provisioning) (d : Dir) (n : LinkId) : (s.withProv v).path d n = s.path d n := rfl
@[simp] theorem State.path_setRecord (s : State) (b : AssocId) (r : Record) (d : Dir) (n : LinkId) : (s.setRecord b r).path d n = s.path d n := rfl
@[simp] theorem State.path_setLane (s : State) (m : LaneId) (v : Lane) (d : Dir) (n : LinkId) : (s.setLane m v).path d n = s.path d n := rfl
@[simp] theorem State.path_notify (s : State) (v : Notice) (d : Dir) (n : LinkId) : (s.notify v).path d n = s.path d n := rfl

@[simp] theorem State.port_withPending (s : State) (v : List Instr) (side : Side) (n : LinkId) : (s.withPending v).port side n = s.port side n := rfl
@[simp] theorem State.port_withNow (s : State) (v : Nat) (side : Side) (n : LinkId) : (s.withNow v).port side n = s.port side n := rfl
@[simp] theorem State.port_withDevice (s : State) (v : Device) (side : Side) (n : LinkId) : (s.withDevice v).port side n = s.port side n := rfl
@[simp] theorem State.port_withRecords (s : State) (v : Vector Record 2048) (side : Side) (n : LinkId) : (s.withRecords v).port side n = s.port side n := rfl
@[simp] theorem State.port_withBank (s : State) (v : BankUnit) (side : Side) (n : LinkId) : (s.withBank v).port side n = s.port side n := rfl
@[simp] theorem State.port_withRules (s : State) (v : Vector RangeRule 32) (side : Side) (n : LinkId) : (s.withRules v).port side n = s.port side n := rfl
@[simp] theorem State.port_withFlow (s : State) (v : FlowTable) (side : Side) (n : LinkId) : (s.withFlow v).port side n = s.port side n := rfl
@[simp] theorem State.port_withLanes (s : State) (v : Vector Lane 8) (side : Side) (n : LinkId) : (s.withLanes v).port side n = s.port side n := rfl
@[simp] theorem State.port_withLastGrant (s : State) (v : Fin 8) (side : Side) (n : LinkId) : (s.withLastGrant v).port side n = s.port side n := rfl
@[simp] theorem State.port_withControl (s : State) (v : Control) (side : Side) (n : LinkId) : (s.withControl v).port side n = s.port side n := rfl
@[simp] theorem State.port_withProv (s : State) (v : Provisioning) (side : Side) (n : LinkId) : (s.withProv v).port side n = s.port side n := rfl
@[simp] theorem State.port_setRecord (s : State) (b : AssocId) (r : Record) (side : Side) (n : LinkId) : (s.setRecord b r).port side n = s.port side n := rfl
@[simp] theorem State.port_setLane (s : State) (m : LaneId) (v : Lane) (side : Side) (n : LinkId) : (s.setLane m v).port side n = s.port side n := rfl
@[simp] theorem State.port_notify (s : State) (v : Notice) (side : Side) (n : LinkId) : (s.notify v).port side n = s.port side n := rfl

@[simp] theorem State.params_withPending (s : State) (v : List Instr) (n : LinkId) : (s.withPending v).params n = s.params n := rfl
@[simp] theorem State.params_withNow (s : State) (v : Nat) (n : LinkId) : (s.withNow v).params n = s.params n := rfl
@[simp] theorem State.params_withDevice (s : State) (v : Device) (n : LinkId) : (s.withDevice v).params n = s.params n := rfl
@[simp] theorem State.params_withRecords (s : State) (v : Vector Record 2048) (n : LinkId) : (s.withRecords v).params n = s.params n := rfl
@[simp] theorem State.params_withBank (s : State) (v : BankUnit) (n : LinkId) : (s.withBank v).params n = s.params n := rfl
@[simp] theorem State.params_withRules (s : State) (v : Vector RangeRule 32) (n : LinkId) : (s.withRules v).params n = s.params n := rfl
@[simp] theorem State.params_withFlow (s : State) (v : FlowTable) (n : LinkId) : (s.withFlow v).params n = s.params n := rfl
@[simp] theorem State.params_withLanes (s : State) (v : Vector Lane 8) (n : LinkId) : (s.withLanes v).params n = s.params n := rfl
@[simp] theorem State.params_withLastGrant (s : State) (v : Fin 8) (n : LinkId) : (s.withLastGrant v).params n = s.params n := rfl
@[simp] theorem State.params_withControl (s : State) (v : Control) (n : LinkId) : (s.withControl v).params n = s.params n := rfl
@[simp] theorem State.params_withProv (s : State) (v : Provisioning) (n : LinkId) : (s.withProv v).params n = s.params n := rfl
@[simp] theorem State.params_setRecord (s : State) (b : AssocId) (r : Record) (n : LinkId) : (s.setRecord b r).params n = s.params n := rfl
@[simp] theorem State.params_setLane (s : State) (m : LaneId) (v : Lane) (n : LinkId) : (s.setLane m v).params n = s.params n := rfl
@[simp] theorem State.params_notify (s : State) (v : Notice) (n : LinkId) : (s.notify v).params n = s.params n := rfl

end Sys2Proof.Machine
end

