-- ==== Sys2Proof/Laws/Buffers.lean ====
section
/-! SUPPORT. What the shared operations on buffers, order queues and heads do: PAUSE requests, the pause test, freed and taken cells,
drops, and the heads that leave at the end of a change. -/

namespace Sys2Proof.Machine

/-! ### Writes over writes -/

@[simp] theorem State.setRecord_setRecord (s : State) (a : AssocId) (r r' : Record) : (s.setRecord a r).setRecord a r' = s.setRecord a r' := by
  simp [State.setRecord]

@[simp] theorem State.setRecord_self (s : State) (a : AssocId) : s.setRecord a (s.record a) = s := by
  simp [State.setRecord, State.record]

@[simp] theorem State.setLink_setLink (s : State) (n : LinkId) (l l' : Link) : (s.setLink n l).setLink n l' = s.setLink n l' := by
  simp [State.setLink]

@[simp] theorem State.setLink_self (s : State) (n : LinkId) : s.setLink n (s.link n) = s := by
  simp [State.setLink, State.link]

@[simp] theorem Link.setPath_setPath (l : Link) (d : Dir) (p p' : Path) : (l.setPath d p).setPath d p' = l.setPath d p' := by cases d <;> rfl

@[simp] theorem Link.setPort_setPort (l : Link) (a : Side) (p p' : Port) : (l.setPort a p).setPort a p' = l.setPort a p' := by cases a <;> rfl

@[simp] theorem State.setPath_setPath (s : State) (d : Dir) (n : LinkId) (p p' : Path) :
    (s.setPath d n p).setPath d n p' = s.setPath d n p' := by
  simp [State.setPath]

@[simp] theorem State.setPort_setPort (s : State) (a : Side) (n : LinkId) (p p' : Port) :
    (s.setPort a n p).setPort a n p' = s.setPort a n p' := by
  simp [State.setPort]

@[simp] theorem State.setPath_self (s : State) (d : Dir) (n : LinkId) : s.setPath d n (s.path d n) = s := by
  unfold State.setPath State.path
  have : (s.link n).setPath d ((s.link n).path d) = s.link n := by cases d <;> rfl
  rw [this]; simp

@[simp] theorem State.setPort_self (s : State) (a : Side) (n : LinkId) : s.setPort a n (s.port a n) = s := by
  unfold State.setPort State.port
  have : (s.link n).setPort a ((s.link n).port a) = s.link n := by cases a <;> rfl
  rw [this]; simp

/-- Writes of a path and of a port of one link commute. -/
theorem State.setPort_setPath (s : State) (a : Side) (d : Dir) (n : LinkId) (p : Path) (v : Port) :
    (s.setPath d n p).setPort a n v = (s.setPort a n v).setPath d n p := by
  have : ∀ l : Link, (l.setPath d p).setPort a v = (l.setPort a v).setPath d p := by intro l; cases d <;> cases a <;> rfl
  simp [State.setPath, State.setPort, this]

/-- Writes of a record and of a path commute. -/
theorem State.setPath_setRecord (s : State) (a : AssocId) (d : Dir) (n : LinkId) (p : Path) (r : Record) :
    (s.setRecord a r).setPath d n p = (s.setPath d n p).setRecord a r := rfl

@[simp] theorem State.link_setPath_ne (s : State) (d : Dir) {n m : LinkId} (p : Path) (h : m ≠ n) : (s.setPath d n p).link m = s.link m :=
  State.link_setLink_ne _ _ h

@[simp] theorem State.link_setPort_ne (s : State) (a : Side) {n m : LinkId} (p : Port) (h : m ≠ n) : (s.setPort a n p).link m = s.link m :=
  State.link_setLink_ne _ _ h

@[simp] theorem State.mode_setPath (s : State) (d : Dir) (n m : LinkId) (p : Path) : ((s.setPath d n p).link m).mode = (s.link m).mode := by
  by_cases h : m = n
  · subst h; simp [State.setPath]
  · simp [h]

@[simp] theorem State.cover_setPath (s : State) (d : Dir) (n m : LinkId) (p : Path) : ((s.setPath d n p).link m).cover = (s.link m).cover := by
  by_cases h : m = n
  · subst h; simp [State.setPath]
  · simp [h]

@[simp] theorem State.mode_setPort (s : State) (a : Side) (n m : LinkId) (p : Port) : ((s.setPort a n p).link m).mode = (s.link m).mode := by
  by_cases h : m = n
  · subst h; simp [State.setPort]
  · simp [h]

@[simp] theorem State.cover_setPort (s : State) (a : Side) (n m : LinkId) (p : Port) : ((s.setPort a n p).link m).cover = (s.link m).cover := by
  by_cases h : m = n
  · subst h; simp [State.setPort]
  · simp [h]

theorem feedSide_ne_sendSide (d : Dir) : sendSide d ≠ feedSide d := by cases d <;> decide

/-! ### The pause test and cells (R142, R144) -/

/-- What a PAUSE request adds to the requests of a port: nothing while the port is DOWN (R145). -/
def Port.asked (p : Port) (ks : List PauseKind) : Port := { p with pauseAsked := p.pauseAsked ++ if p.up then ks else [] }

@[simp] theorem Port.asked_up (p : Port) (ks : List PauseKind) : (p.asked ks).up = p.up := rfl
@[simp] theorem Port.asked_signal (p : Port) (ks : List PauseKind) : (p.asked ks).signal = p.signal := rfl
@[simp] theorem Port.asked_pausedUntil (p : Port) (ks : List PauseKind) : (p.asked ks).pausedUntil = p.pausedUntil := rfl
@[simp] theorem Port.asked_sending (p : Port) (ks : List PauseKind) : (p.asked ks).sending = p.sending := rfl
@[simp] theorem Port.asked_lineOut (p : Port) (ks : List PauseKind) : (p.asked ks).lineOut = p.lineOut := rfl
@[simp] theorem Port.asked_nil (p : Port) : p.asked [] = p := by cases p; simp [Port.asked]

/-- R145: a PAUSE request, as one write of the port. -/
theorem State.askPause_eq (s : State) (a : Side) (n : LinkId) (k : PauseKind) :
    s.askPause a n k = s.setPort a n ((s.port a n).asked [k]) := by
  unfold State.askPause
  by_cases h : (s.port a n).up = true
  · simp [h, Port.asked]
  · have : (s.port a n).asked [k] = s.port a n := by
      rcases hp : s.port a n with ⟨_, up, _, _, _, _⟩
      have hu : up = false := by simpa [hp] using h
      simp [Port.asked, hu]
    simp [h, this]

/-- R144: whether a NORMAL buffer becomes PAUSING. -/
def Path.stops (p : Path) (b : BufferParams) : Bool := !p.pausing && decide (p.free < b.xoff)

/-- R144: whether a PAUSING buffer becomes NORMAL. -/
def Path.resumes (p : Path) (b : BufferParams) : Bool := p.pausing && decide (b.xon ≤ p.free)

/-- R144: the path after its test. -/
def Path.tested (p : Path) (b : BufferParams) (now : Nat) : Path :=
  { p with
    pausing := (p.pausing || p.stops b) && !p.resumes b
    resendAt := if p.stops b then some (now + resendInterval b) else if p.resumes b then none else p.resendAt }

@[simp] theorem Path.tested_free (p : Path) (b : BufferParams) (t : Nat) : (p.tested b t).free = p.free := rfl
@[simp] theorem Path.tested_stored (p : Path) (b : BufferParams) (t : Nat) : (p.tested b t).stored = p.stored := rfl
@[simp] theorem Path.tested_queue (p : Path) (b : BufferParams) (t : Nat) : (p.tested b t).queue = p.queue := rfl
@[simp] theorem Path.tested_counters (p : Path) (b : BufferParams) (t : Nat) : (p.tested b t).counters = p.counters := rfl

/-- R144: what a test asks of the feeding port. -/
def Path.asks (p : Path) (b : BufferParams) : List PauseKind := if p.stops b then [.stop] else if p.resumes b then [.resume] else []

/-- R144: the pause test, as one write of the path and one of the feeding port. -/
theorem State.pauseTest_eq (s : State) (d : Dir) (n : LinkId) (p : Path) (b : BufferParams) (hp : p = s.path d n)
    (hb : b = (s.params n).buf d) :
    s.pauseTest d n = (s.setPath d n (p.tested b s.now)).setPort (feedSide d) n ((s.port (feedSide d) n).asked (p.asks b)) := by
  subst hp hb
  unfold State.pauseTest
  rcases hpa : (s.path d n).pausing with _ | _
  · by_cases h : (s.path d n).free < ((s.params n).buf d).xoff
    · simp [h, State.askPause_eq, Path.tested, Path.asks, Path.stops, Path.resumes, hpa]
    · have : s.setPath d n ((s.path d n).tested ((s.params n).buf d) s.now) = s := by
        have : (s.path d n).tested ((s.params n).buf d) s.now = s.path d n := by
          simp [Path.tested, Path.stops, Path.resumes, hpa, h]; rw [← hpa]
        rw [this]; simp
      simp [h, this, Path.asks, Path.stops, Path.resumes, hpa]
  · by_cases h : ((s.params n).buf d).xon ≤ (s.path d n).free
    · simp [h, State.askPause_eq, Path.tested, Path.asks, Path.stops, Path.resumes, hpa]
    · have : s.setPath d n ((s.path d n).tested ((s.params n).buf d) s.now) = s := by
        have : (s.path d n).tested ((s.params n).buf d) s.now = s.path d n := by
          simp [Path.tested, Path.stops, Path.resumes, hpa, h]; rw [← hpa]
        rw [this]; simp
      simp [h, this, Path.asks, Path.stops, Path.resumes, hpa]

/-- R142: freed cells, as one write of the path and one of the feeding port. -/
theorem State.freeCells_eq (s : State) (d : Dir) (n : LinkId) {k : Nat} (hk : 0 < k) (p : Path) (b : BufferParams)
    (hp : p = { s.path d n with free := (s.path d n).free + k }) (hb : b = (s.params n).buf d) :
    s.freeCells d n k = (s.setPath d n (p.tested b s.now)).setPort (feedSide d) n ((s.port (feedSide d) n).asked (p.asks b)) := by
  have : k ≠ 0 := by omega
  simp only [State.freeCells, this, if_false]
  rw [State.pauseTest_eq _ d n p b (by simp [hp]) (by simp [hb])]
  simp

/-- R142: taken cells, as one write of the path and one of the feeding port. -/
theorem State.takeCells_eq (s : State) (d : Dir) (n : LinkId) {k : Nat} (hk : 0 < k) (p : Path) (b : BufferParams)
    (hp : p = { s.path d n with free := (s.path d n).free - k }) (hb : b = (s.params n).buf d) :
    s.takeCells d n k = (s.setPath d n (p.tested b s.now)).setPort (feedSide d) n ((s.port (feedSide d) n).asked (p.asks b)) := by
  have : k ≠ 0 := by omega
  simp only [State.takeCells, this, if_false]
  rw [State.pauseTest_eq _ d n p b (by simp [hp]) (by simp [hb])]
  simp

/-! ### Two states that agree but for the pause of one buffer -/

/-- `t` is `s` with one path rewritten and PAUSE frames asked of the port that feeds it. -/
def State.pathStep (s t : State) (d : Dir) (n : LinkId) (p : Path) : Prop :=
  ∃ ks, t = (s.setPath d n p).setPort (feedSide d) n ((s.port (feedSide d) n).asked ks)

/-- What follows for everything else of the machine. -/
theorem State.pathStep_frame {s t : State} {d : Dir} {n : LinkId} {p : Path} (h : s.pathStep t d n p) :
    t.path d n = p ∧ s.sameCore t ∧ (∀ m, t.params m = s.params m) ∧ (∀ m, (t.link m).mode = (s.link m).mode)
      ∧ (∀ m, (t.link m).cover = (s.link m).cover) ∧ (∀ m, m ≠ n → t.link m = s.link m)
      ∧ (∀ d' m, (d', m) ≠ (d, n) → t.path d' m = s.path d' m)
      ∧ (∀ a m, (a, m) ≠ (feedSide d, n) → t.port a m = s.port a m)
      ∧ ∃ ks, t.port (feedSide d) n = (s.port (feedSide d) n).asked ks := by
  obtain ⟨ks, rfl⟩ := h
  refine ⟨by simp, ⟨rfl, rfl, rfl, rfl, rfl, rfl, rfl, rfl, rfl, rfl, rfl⟩, by simp, by simp, by simp, ?_, ?_, ?_, ks, by simp⟩
  · intro m hm; simp [hm]
  · intro d' m h; simp [State.path_setPath_ne _ _ h]
  · intro a m h; rw [State.port_setPort_ne _ _ h]; simp

/-- R142: freed cells change one path (its free count and its pause) and what is asked of its port. -/
theorem State.freeCells_spec (s : State) (d : Dir) (n : LinkId) (k : Nat) :
    ∃ p, s.pathStep (s.freeCells d n k) d n p ∧ p.free = (s.path d n).free + k ∧ p.stored = (s.path d n).stored
      ∧ p.queue = (s.path d n).queue ∧ p.counters = (s.path d n).counters := by
  rcases Nat.eq_zero_or_pos k with rfl | hk
  · exact ⟨s.path d n, ⟨[], by simp [State.freeCells]⟩, rfl, rfl, rfl, rfl⟩
  · exact ⟨_, ⟨_, State.freeCells_eq s d n hk _ _ rfl rfl⟩, rfl, rfl, rfl, rfl⟩

/-- R142: taken cells change one path (its free count and its pause) and what is asked of its port. -/
theorem State.takeCells_spec (s : State) (d : Dir) (n : LinkId) (k : Nat) :
    ∃ p, s.pathStep (s.takeCells d n k) d n p ∧ p.free = (s.path d n).free - k ∧ p.stored = (s.path d n).stored
      ∧ p.queue = (s.path d n).queue ∧ p.counters = (s.path d n).counters := by
  rcases Nat.eq_zero_or_pos k with rfl | hk
  · exact ⟨s.path d n, ⟨[], by simp [State.takeCells]⟩, rfl, rfl, rfl, rfl⟩
  · exact ⟨_, ⟨_, State.takeCells_eq s d n hk _ _ rfl rfl⟩, rfl, rfl, rfl, rfl⟩

/-- R88, R113: a frame dropped without an entry changes the counter of its reason and its cells. -/
theorem State.dropFrame_spec (s : State) (d : Dir) (n : LinkId) (why : Reason) (k : Nat) :
    ∃ p, s.pathStep (s.dropFrame d n why k) d n p ∧ p.free = (s.path d n).free + k ∧ p.stored = (s.path d n).stored
      ∧ p.queue = (s.path d n).queue ∧ p.counters = (s.path d n).counters.addDiscard why 1 := by
  obtain ⟨p, ⟨ks, h⟩, h1, h2, h3, h4⟩ := State.freeCells_spec (s.countDrop d n why 1) d n k
  simp only [State.countDrop, State.path_setPath_same, State.port_setPath, State.setPath_setPath] at h h1 h2 h3 h4
  exact ⟨p, ⟨ks, h⟩, h1, h2, h3, h4⟩

/-- R113: entries dropped in place change their states, the counter of their reason and their cells. -/
theorem State.dropEntries_spec (s : State) (d : Dir) (n : LinkId) (chosen : Entry → Bool) (why : Reason) :
    ∃ p, s.pathStep (s.dropEntries d n chosen why) d n p
      ∧ p.free = (s.path d n).free + cellsOf (s.path d n).queue (fun e => chosen e && !e.isDropped)
      ∧ p.stored = (s.path d n).stored
      ∧ p.queue = (s.path d n).queue.map (fun e => if chosen e && !e.isDropped then e.drop why else e)
      ∧ p.counters
        = (s.path d n).counters.addDiscard why ((s.path d n).queue.filter fun e => chosen e && !e.isDropped).length := by
  obtain ⟨p, ⟨ks, h⟩, h1, h2, h3, h4⟩ := State.freeCells_spec
    ((s.setQueue d n ((s.path d n).queue.map fun e => if chosen e && !e.isDropped then e.drop why else e)).countDrop d n why
      ((s.path d n).queue.filter fun e => chosen e && !e.isDropped).length) d n
    (cellsOf (s.path d n).queue fun e => chosen e && !e.isDropped)
  refine ⟨p, ⟨ks, ?_⟩, ?_⟩
  · refine Eq.trans (b := _) ?_ (h.trans ?_)
    · simp [State.dropEntries, State.setQueue]
    · simp [State.countDrop, State.setQueue]
  · simpa [State.countDrop, State.setQueue] using And.intro h1 (And.intro h2 (And.intro h3 h4))

/-- R113, R117: a head dropped at the head leaves its queue, is counted, and gives back its cells. -/
theorem State.dropHead_spec (s : State) (d : Dir) (n : LinkId) (why : Reason) (e : Entry) (rest : List Entry)
    (hq : (s.path d n).queue = e :: rest) :
    ∃ p, s.pathStep (s.dropHead d n why) d n p ∧ p.free = (s.path d n).free + e.cells ∧ p.stored = (s.path d n).stored
      ∧ p.queue = rest ∧ p.counters = (s.path d n).counters.addDiscard why 1 := by
  obtain ⟨p, ⟨ks, h⟩, h1, h2, h3, h4⟩ := State.freeCells_spec ((s.setQueue d n rest).countDrop d n why 1) d n e.cells
  simp only [State.countDrop, State.setQueue, State.path_setPath_same, State.port_setPath, State.setPath_setPath] at h h1 h2 h3 h4
  refine ⟨p, ⟨ks, ?_⟩, h1, h2, h3, h4⟩
  simp only [State.dropHead, hq]
  simpa [State.countDrop, State.setQueue] using h

/-- R143, R144: what a change of thresholds does to one path: nothing when both keep their values, and otherwise its pause test. -/
theorem State.thresholdTest_spec (s : State) (d : Dir) (n : LinkId) (old : BufferParams) (p : Path) (b : BufferParams)
    (hp : p = s.path d n) (hb : b = (s.params n).buf d) :
    (b.xoff = old.xoff ∧ b.xon = old.xon → s.thresholdTest d n old = s)
      ∧ (b.xoff ≠ old.xoff ∨ b.xon ≠ old.xon → s.pathStep (s.thresholdTest d n old) d n (p.tested b s.now)) := by
  subst hb
  refine ⟨fun h => by simp [State.thresholdTest, h], fun h => ⟨p.asks ((s.params n).buf d), ?_⟩⟩
  rw [State.thresholdTest, if_neg (by omega), State.pauseTest_eq s d n p _ hp rfl]

/-- R144: what a zeroization and a soft reset do to a buffer's pause: it ends, and the feeding port is asked for the PAUSE 0. -/
theorem State.endPausing_spec (s : State) (d : Dir) (n : LinkId) :
    ∃ p, s.pathStep (s.endPausing d n) d n p
      ∧ p = { s.path d n with pausing := false, resendAt := if (s.path d n).pausing then none else (s.path d n).resendAt }
      ∧ (s.endPausing d n).port (feedSide d) n
        = (s.port (feedSide d) n).asked (if (s.path d n).pausing then [.resume] else []) := by
  unfold State.endPausing
  rcases hp : (s.path d n).pausing with _ | _
  · refine ⟨s.path d n, ⟨[], by simp [hp]⟩, ?_, by simp [hp]⟩
    simp only [Bool.false_eq_true, if_false]; rw [← hp]
  · exact ⟨{ s.path d n with pausing := false, resendAt := none }, ⟨[.resume], by simp [hp, State.askPause_eq]⟩, rfl,
      by simp [hp, State.askPause_eq]⟩

/-! ### Heads at the end of a change (R113, R117) -/

/-- R113, R117: a head that is neither DROPPED, DONE nor VERIFIED stays, and every head of an UP port that is not DROPPED. -/
theorem State.settle_of_head (s : State) (d : Dir) (n : LinkId)
    (h : ∀ e, (s.path d n).queue.head? = some e → e.isDropped = false
      ∧ ((s.port (sendSide d) n).up = true ∨ (e.state ≠ .done ∧ (e.state ≠ .verified ∨ d = .egress)))) : s.settle d n = s := by
  unfold State.settle
  rcases hq : (s.path d n).queue with _ | ⟨e, rest⟩
  · rfl
  · obtain ⟨h1, h2⟩ := h e (by simp [hq])
    simp only [List.length_cons, State.settleHeads, hq]
    split
    · rename_i he; simp [Entry.isDropped, he] at h1
    · rename_i he; rcases h2 with h2 | h2 <;> simp_all
    · rename_i he; rcases h2 with h2 | h2 <;> simp_all
    · rfl

/-- R113, R169: the same with the transmit line's choice. -/
theorem State.finish_of_head (s : State) (d : Dir) (n : LinkId)
    (h : ∀ e, (s.path d n).queue.head? = some e → e.isDropped = false
      ∧ ((s.port (sendSide d) n).up = true ∨ (e.state ≠ .done ∧ (e.state ≠ .verified ∨ d = .egress)))) : s.finish d n = s.pump := by
  simp [State.finish, State.settle_of_head s d n h]

end Sys2Proof.Machine
end

