-- ==== Sys2Proof/Laws/Frames.lean ====
section
/-! SUPPORT. What traffic and Store events leave alone: the queue of commands, the device, the range rules, the provisioning area, and
each link's mode and parameters. -/

namespace Sys2Proof.Machine

/-- What no traffic and no Store event changes. -/
def State.setup (s : State) : List Instr × Device × Vector RangeRule 32 × Provisioning × (LinkId → Mode × LinkParams) :=
  (s.pending, s.device, s.rules, s.prov, fun n => ((s.link n).mode, (s.link n).params))

theorem State.setup_setLink (s : State) (n : LinkId) (l : Link) (hm : l.mode = (s.link n).mode) (hp : l.params = (s.link n).params) :
    (s.setLink n l).setup = s.setup := by
  have : (fun m => (((s.setLink n l).link m).mode, ((s.setLink n l).link m).params)) = fun m => ((s.link m).mode, (s.link m).params) := by
    funext m
    by_cases h : m = n
    · subst h; simp [hm, hp]
    · simp [State.link_setLink_ne _ _ h]
  simp only [State.setup, this]; rfl

@[simp] theorem State.setup_withNow (s : State) (v : Nat) : (s.withNow v).setup = s.setup := rfl
@[simp] theorem State.setup_withRecords (s : State) (v : Vector Record 2048) : (s.withRecords v).setup = s.setup := rfl
@[simp] theorem State.setup_withBank (s : State) (v : BankUnit) : (s.withBank v).setup = s.setup := rfl
@[simp] theorem State.setup_withFlow (s : State) (v : FlowTable) : (s.withFlow v).setup = s.setup := rfl
@[simp] theorem State.setup_withLanes (s : State) (v : Vector Lane 8) : (s.withLanes v).setup = s.setup := rfl
@[simp] theorem State.setup_withLastGrant (s : State) (v : Fin 8) : (s.withLastGrant v).setup = s.setup := rfl
@[simp] theorem State.setup_withControl (s : State) (v : Control) : (s.withControl v).setup = s.setup := rfl
@[simp] theorem State.setup_setRecord (s : State) (a : AssocId) (r : Record) : (s.setRecord a r).setup = s.setup := rfl
@[simp] theorem State.setup_setLane (s : State) (l : LaneId) (v : Lane) : (s.setLane l v).setup = s.setup := rfl

@[simp] theorem State.setup_setPath (s : State) (d : Dir) (n : LinkId) (p : Path) : (s.setPath d n p).setup = s.setup :=
  State.setup_setLink _ _ _ (by simp) (by simp)

@[simp] theorem State.setup_setPort (s : State) (side : Side) (n : LinkId) (p : Port) : (s.setPort side n p).setup = s.setup :=
  State.setup_setLink _ _ _ (by simp) (by simp)

@[simp] theorem State.setup_setCover (s : State) (n : LinkId) (c : CoverGen) : (s.setCover n c).setup = s.setup :=
  State.setup_setLink _ _ _ rfl rfl

@[simp] theorem State.setup_setQueue (s : State) (d : Dir) (n : LinkId) (q : List Entry) : (s.setQueue d n q).setup = s.setup :=
  State.setup_setPath _ _ _ _

@[simp] theorem State.setup_countDrop (s : State) (d : Dir) (n : LinkId) (why : Reason) (k : Nat) :
    (s.countDrop d n why k).setup = s.setup := State.setup_setPath _ _ _ _

@[simp] theorem State.setup_append (s : State) (d : Dir) (n : LinkId) (e : Entry) : (s.append d n e).setup = s.setup :=
  State.setup_setPath _ _ _ _

@[simp] theorem State.setup_popHead (s : State) (d : Dir) (n : LinkId) : (s.popHead d n).setup = s.setup := State.setup_setPath _ _ _ _

@[simp] theorem State.setup_notify (s : State) (v : Notice) : (s.notify v).setup = s.setup := rfl

@[simp] theorem State.setup_wantRollover (s : State) (a : AssocId) : (s.wantRollover a).setup = s.setup := rfl

@[simp] theorem State.setup_unname (s : State) (a : AssocId) : (s.unname a).setup = s.setup := by
  have : (fun n => (((s.unname a).link n).mode, ((s.unname a).link n).params)) = fun n => ((s.link n).mode, (s.link n).params) := by
    funext n
    simp [State.unname, State.link, State.withLinks]
  simp only [State.setup, this]; rfl

@[simp] theorem State.setup_notifyAll (s : State) (vs : List Notice) : (s.notifyAll vs).setup = s.setup := by
  induction vs generalizing s with
  | nil => rfl
  | cons v vs ih => exact (ih (s.notify v)).trans (by simp)

@[simp] theorem State.setup_askPause (s : State) (side : Side) (n : LinkId) (k : PauseKind) :
    (s.askPause side n k).setup = s.setup := by
  unfold State.askPause
  try dsimp only
  repeat' split
  all_goals first | rfl | (simp; done)

@[simp] theorem State.setup_pauseTest (s : State) (d : Dir) (n : LinkId) : (s.pauseTest d n).setup = s.setup := by
  unfold State.pauseTest
  try dsimp only
  repeat' split
  all_goals first | rfl | (simp; done)

@[simp] theorem State.setup_freeCells (s : State) (d : Dir) (n : LinkId) (k : Nat) : (s.freeCells d n k).setup = s.setup := by
  unfold State.freeCells
  try dsimp only
  repeat' split
  all_goals first | rfl | (simp; done)

@[simp] theorem State.setup_takeCells (s : State) (d : Dir) (n : LinkId) (k : Nat) : (s.takeCells d n k).setup = s.setup := by
  unfold State.takeCells
  try dsimp only
  repeat' split
  all_goals first | rfl | (simp; done)

@[simp] theorem State.setup_dropFrame (s : State) (d : Dir) (n : LinkId) (why : Reason) (cells : Nat) :
    (s.dropFrame d n why cells).setup = s.setup := by
  unfold State.dropFrame
  try dsimp only
  repeat' split
  all_goals first | rfl | (simp; done)

@[simp] theorem State.setup_dropEntries (s : State) (d : Dir) (n : LinkId) (chosen : Entry → Bool) (why : Reason) :
    (s.dropEntries d n chosen why).setup = s.setup := by
  unfold State.dropEntries
  try dsimp only
  repeat' split
  all_goals first | rfl | (simp; done)

@[simp] theorem State.setup_dropHead (s : State) (d : Dir) (n : LinkId) (why : Reason) : (s.dropHead d n why).setup = s.setup := by
  unfold State.dropHead
  try dsimp only
  repeat' split
  all_goals first | rfl | (simp; done)

@[simp] theorem State.setup_pump (s : State) : (s.pump).setup = s.setup := by
  unfold State.pump
  try dsimp only
  repeat' split
  all_goals first | rfl | (simp; done)

@[simp] theorem State.setup_answer (s : State) (status : Status) (flags : Flags) (doneCount : Nat) (body : Bytes) :
    (s.answer status flags doneCount body).setup = s.setup := by
  unfold State.answer
  try dsimp only
  repeat' split
  all_goals first | rfl | (simp; done)

@[simp] theorem State.setup_answerOnce (s : State) (status : Status) (flags : Flags) (body : Bytes) :
    (s.answerOnce status flags body).setup = s.setup := by
  unfold State.answerOnce
  try dsimp only
  repeat' split
  all_goals first | rfl | (simp; done)

@[simp] theorem State.setup_receiveAll (s : State) (bs : Bytes) : (s.receiveAll bs).setup = s.setup := by
  unfold State.receiveAll
  try dsimp only
  repeat' split
  all_goals first | rfl | (simp; done)

@[simp] theorem State.setup_receiveThenAbandon (s : State) (bs : Bytes) : (s.receiveThenAbandon bs).setup = s.setup := by
  unfold State.receiveThenAbandon
  try dsimp only
  repeat' split
  all_goals first | rfl | (simp; done)

@[simp] theorem State.setup_rollEgress (s : State) (a : AssocId) (cause : RollCause) : (s.rollEgress a cause).setup = s.setup := by
  unfold State.rollEgress
  try dsimp only
  repeat' split
  all_goals first | rfl | (simp; done)

@[simp] theorem State.setup_rollIngress (s : State) (a : AssocId) : (s.rollIngress a).setup = s.setup := by
  unfold State.rollIngress
  try dsimp only
  repeat' split
  all_goals first | rfl | (simp; done)

@[simp] theorem State.setup_deferredRollover (s : State) (a : AssocId) : (s.deferredRollover a).setup = s.setup := by
  unfold State.deferredRollover
  try dsimp only
  repeat' split
  all_goals first | rfl | (simp; done)

@[simp] theorem State.setup_dropVerified (s : State) (a : AssocId) (p : Phase) (why : Reason) :
    (s.dropVerified a p why).setup = s.setup := by
  unfold State.dropVerified
  try dsimp only
  repeat' split
  all_goals first | rfl | (simp; done)

@[simp] theorem State.setup_destroyRetired (s : State) (a : AssocId) : (s.destroyRetired a).setup = s.setup := by
  unfold State.destroyRetired
  try dsimp only
  repeat' split
  all_goals first | rfl | (simp; done)

@[simp] theorem State.setup_emptyRecord (s : State) (a : AssocId) (after : RecState) (why : Reason) :
    (s.emptyRecord a after why).setup = s.setup := by
  unfold State.emptyRecord
  try dsimp only
  repeat' split
  all_goals first | rfl | (simp; done)

@[simp] theorem State.setup_drainEnd (s : State) (a : AssocId) : (s.drainEnd a).setup = s.setup := by
  unfold State.drainEnd
  try dsimp only
  repeat' split
  all_goals first | rfl | (simp; done)

@[simp] theorem State.setup_endPurge (s : State) (p : Purge) (cancelled : Bool) : (s.endPurge p cancelled).setup = s.setup := by
  unfold State.endPurge
  try dsimp only
  repeat' split
  all_goals first | rfl | (simp; done)

@[simp] theorem State.setup_boundary (s : State) (p : Purge) : (s.boundary p).setup = s.setup := by
  unfold State.boundary
  try dsimp only
  repeat' split
  all_goals first | rfl | (simp; done)

@[simp] theorem State.setup_finishPurged (s : State) : (s.finishPurged).setup = s.setup := by
  unfold State.finishPurged
  try dsimp only
  repeat' split
  all_goals first | rfl | (simp; done)

@[simp] theorem State.setup_storeActs (s : State) (a : AssocId) : (s.storeActs a).setup = s.setup := by
  unfold State.storeActs
  try dsimp only
  repeat' split
  all_goals first | rfl | (simp; done)

@[simp] theorem State.setup_requestRollover (s : State) (a : AssocId) (p : Phase) : (s.requestRollover a p).setup = s.setup := by
  unfold State.requestRollover
  try dsimp only
  repeat' split
  all_goals first | rfl | (simp; done)

@[simp] theorem State.setup_consumeCover (s : State) (n : LinkId) (a : AssocId) (e : Entry) :
    (s.consumeCover n a e).setup = s.setup := by
  unfold State.consumeCover
  try dsimp only
  repeat' split
  all_goals first | rfl | (simp; done)

@[simp] theorem State.setup_handOver (s : State) (n : LinkId) (e : Entry) (frame : Bytes) :
    (s.handOver n e frame).setup = s.setup := by
  unfold State.handOver
  try dsimp only
  repeat' split
  all_goals first | rfl | (simp; done)

@[simp] theorem State.setup_deliver (s : State) (n : LinkId) (a : AssocId) (e : Entry) : (s.deliver n a e).setup = s.setup := by
  unfold State.deliver
  try dsimp only
  repeat' split
  all_goals first | rfl | (simp; done)

@[simp] theorem State.setup_releaseHead (s : State) (n : LinkId) : (s.releaseHead n).setup = s.setup := by
  unfold State.releaseHead
  try dsimp only
  repeat' split
  all_goals first | rfl | (simp; done)

@[simp] theorem State.setup_settleHeads (d : Dir) (n : LinkId) (k : Nat) (s : State) : (State.settleHeads d n k s).setup = s.setup := by
  induction k generalizing s with
  | zero => rfl
  | succ k ih =>
    unfold State.settleHeads
    (repeat' split) <;> simp [ih]

@[simp] theorem State.setup_settle (s : State) (d : Dir) (n : LinkId) : (s.settle d n).setup = s.setup := by
  unfold State.settle
  try dsimp only
  repeat' split
  all_goals first | rfl | (simp; done)

@[simp] theorem State.setup_finish (s : State) (d : Dir) (n : LinkId) : (s.finish d n).setup = s.setup := by
  unfold State.finish
  try dsimp only
  repeat' split
  all_goals first | rfl | (simp; done)

@[simp] theorem State.setup_expireHold (s : State) (d : Dir) (a : AssocId) : (s.expireHold d a).setup = s.setup := by
  unfold State.expireHold
  try dsimp only
  repeat' split
  all_goals first | rfl | (simp; done)

@[simp] theorem State.setup_expireGrace (s : State) (a : AssocId) : (s.expireGrace a).setup = s.setup := by
  unfold State.expireGrace
  try dsimp only
  repeat' split
  all_goals first | rfl | (simp; done)

@[simp] theorem State.setup_grant (s : State) : (s.grant).setup = s.setup := by
  unfold State.grant
  try dsimp only
  repeat' split
  all_goals first | rfl | (simp; done)

@[simp] theorem State.setup_recordTagFail (s : State) (a : AssocId) (p : Phase) (pn : Nat) :
    (s.recordTagFail a p pn).setup = s.setup := by
  unfold State.recordTagFail
  try dsimp only
  repeat' split
  all_goals first | rfl | (simp; done)

@[simp] theorem State.setup_completeEntry (s : State) (l : LaneId) (d : Dir) (n : LinkId) (f : Fetched) (e : Entry) :
    (s.completeEntry l d n f e).setup = s.setup := by
  unfold State.completeEntry
  try dsimp only
  repeat' split
  all_goals first | rfl | (simp; done)

@[simp] theorem State.setup_lowerCount (s : State) (e : Entry) : (s.lowerCount e).setup = s.setup := by
  unfold State.lowerCount
  try dsimp only
  repeat' split
  all_goals first | rfl | (simp; done)

@[simp] theorem State.setup_completeLane (s : State) (l : LaneId) : (s.completeLane l).setup = s.setup := by
  unfold State.completeLane
  try dsimp only
  repeat' split
  all_goals first | rfl | (simp; done)

@[simp] theorem State.setup_restartResend (s : State) (d : Dir) (n : LinkId) : (s.restartResend d n).setup = s.setup := by
  unfold State.restartResend
  try dsimp only
  repeat' split
  all_goals first | rfl | (simp; done)

@[simp] theorem State.setup_sendPause (s : State) (side : Side) (n : LinkId) : (s.sendPause side n).setup = s.setup := by
  unfold State.sendPause
  try dsimp only
  repeat' split
  all_goals first | rfl | (simp; done)

@[simp] theorem State.setup_resendPause (s : State) (d : Dir) (n : LinkId) : (s.resendPause d n).setup = s.setup := by
  unfold State.resendPause
  try dsimp only
  repeat' split
  all_goals first | rfl | (simp; done)

@[simp] theorem State.setup_startTransmit (s : State) (d : Dir) (n : LinkId) : (s.startTransmit d n).setup = s.setup := by
  unfold State.startTransmit
  try dsimp only
  repeat' split
  all_goals first | rfl | (simp; done)

@[simp] theorem State.setup_countFrame (s : State) (e : Entry) : (s.countFrame e).setup = s.setup := by
  unfold State.countFrame
  try dsimp only
  repeat' split
  all_goals first | rfl | (simp; done)

@[simp] theorem State.setup_endTransmit (s : State) (d : Dir) (n : LinkId) : (s.endTransmit d n).setup = s.setup := by
  unfold State.endTransmit
  try dsimp only
  repeat' split
  all_goals first | rfl | (simp; done)

@[simp] theorem State.setup_endPause (s : State) (side : Side) (n : LinkId) : (s.endPause side n).setup = s.setup := by
  unfold State.endPause
  try dsimp only
  repeat' split
  all_goals first | rfl | (simp; done)

@[simp] theorem State.setup_honourPause (s : State) (side : Side) (n : LinkId) (q : Nat) :
    (s.honourPause side n q).setup = s.setup := by
  unfold State.honourPause
  try dsimp only
  repeat' split
  all_goals first | rfl | (simp; done)

@[simp] theorem State.setup_store (s : State) (d : Dir) (n : LinkId) (f : Bytes) : (s.store d n f).setup = s.setup := by
  unfold State.store
  try dsimp only
  repeat' split
  all_goals first | rfl | (simp; done)

@[simp] theorem State.setup_arrive (s : State) (side : Side) (n : LinkId) (f : Bytes) : (s.arrive side n f).setup = s.setup := by
  unfold State.arrive
  try dsimp only
  repeat' split
  all_goals first | rfl | (simp; done)

@[simp] theorem State.setup_portUp (s : State) (side : Side) (n : LinkId) : (s.portUp side n).setup = s.setup := by
  unfold State.portUp
  try dsimp only
  repeat' split
  all_goals first | rfl | (simp; done)

@[simp] theorem State.setup_signalAppears (s : State) (side : Side) (n : LinkId) : (s.signalAppears side n).setup = s.setup := by
  unfold State.signalAppears
  try dsimp only
  repeat' split
  all_goals first | rfl | (simp; done)

@[simp] theorem State.setup_signalLost (s : State) (side : Side) (n : LinkId) (receiving : Bool) :
    (s.signalLost side n receiving).setup = s.setup := by
  unfold State.signalLost
  try dsimp only
  repeat' split
  all_goals first | rfl | (simp; done)

@[simp] theorem State.setup_takeUnderCur (s : State) (n : LinkId) (a : AssocId) (e : Entry) :
    (s.takeUnderCur n a e).setup = s.setup := by
  unfold State.takeUnderCur
  try dsimp only
  repeat' split
  all_goals first | rfl | (simp; done)

@[simp] theorem State.setup_softTest (s : State) (a : AssocId) (pn : Nat) : (s.softTest a pn).setup = s.setup := by
  unfold State.softTest
  try dsimp only
  repeat' split
  all_goals first | rfl | (simp; done)

@[simp] theorem State.setup_dispatchUnderCur (s : State) (n : LinkId) (a : AssocId) (e : Entry) :
    (s.dispatchUnderCur n a e).setup = s.setup := by
  unfold State.dispatchUnderCur
  try dsimp only
  repeat' split
  all_goals first | rfl | (simp; done)

@[simp] theorem State.setup_holdEntry (s : State) (n : LinkId) (a : AssocId) (e : Entry) : (s.holdEntry n a e).1.setup = s.setup := by
  unfold State.holdEntry
  try dsimp only
  repeat' split
  all_goals first | rfl | (simp; done)

@[simp] theorem State.setup_exhaust (s : State) (a : AssocId) (b : Nat) : (s.exhaust a b).setup = s.setup := by
  unfold State.exhaust
  try dsimp only
  repeat' split
  all_goals first | rfl | (simp; done)

@[simp] theorem State.setup_cannotTake (s : State) (n : LinkId) (a : AssocId) (e : Entry) :
    (s.cannotTake n a e).1.setup = s.setup := by
  unfold State.cannotTake
  try dsimp only
  repeat' split
  all_goals first | rfl | (simp; done)

@[simp] theorem State.setup_keyUse (s : State) (n : LinkId) (a : AssocId) (e : Entry) : (s.keyUse n a e).1.setup = s.setup := by
  unfold State.keyUse
  try dsimp only
  repeat' split
  all_goals first | rfl | (simp; done)

@[simp] theorem State.setup_countReduced (s : State) (n : LinkId) (reduced : Bool) : (s.countReduced n reduced).setup = s.setup := by
  unfold State.countReduced
  try dsimp only
  repeat' split
  all_goals first | rfl | (simp; done)

@[simp] theorem State.setup_dispatch (s : State) (n : LinkId) (a : AssocId) (kind : EntryKind) (len own : Nat) (x : Bool) (coverCode : Nat) (data : Bytes) :
    (s.dispatch n a kind len own x coverCode data).1.setup = s.setup := by
  unfold State.dispatch
  try dsimp only
  repeat' split
  all_goals first | rfl | (simp; done) | (rename_i h; have h' := congrArg (fun p => p.1.setup) h; simp at h'; simp [h'])

@[simp] theorem State.setup_enterBypass (s : State) (d : Dir) (n : LinkId) (frame : Bytes) :
    (s.enterBypass d n frame).setup = s.setup := by
  unfold State.enterBypass
  try dsimp only
  repeat' split
  all_goals first | rfl | (simp; done)

@[simp] theorem State.setup_egressBypass (s : State) (n : LinkId) (frame : Bytes) : (s.egressBypass n frame).setup = s.setup := by
  unfold State.egressBypass
  try dsimp only
  repeat' split
  all_goals first | rfl | (simp; done)

@[simp] theorem State.setup_egressEncrypt (s : State) (n : LinkId) (a : AssocId) (frame : Bytes) :
    (s.egressEncrypt n a frame).setup = s.setup := by
  unfold State.egressEncrypt
  try dsimp only
  repeat' split
  all_goals first | rfl | (simp; done)

@[simp] theorem State.setup_egressVerdict (s : State) (n : LinkId) (frame : Bytes) (v : Verdict) (assoc : Option AssocId) :
    (s.egressVerdict n frame v assoc).setup = s.setup := by
  unfold State.egressVerdict
  try dsimp only
  repeat' split
  all_goals first | rfl | (simp; done)

@[simp] theorem State.setup_egressFlow (s : State) (n : LinkId) (frame : Bytes) : (s.egressFlow n frame).setup = s.setup := by
  unfold State.egressFlow
  try dsimp only
  repeat' split
  all_goals first | rfl | (simp; done)

@[simp] theorem State.setup_egressFrame (s : State) (n : LinkId) (frame : Bytes) : (s.egressFrame n frame).setup = s.setup := by
  unfold State.egressFrame
  try dsimp only
  repeat' split
  all_goals first | rfl | (simp; done)

@[simp] theorem State.setup_classifyEgress (s : State) (n : LinkId) : (s.classifyEgress n).setup = s.setup := by
  unfold State.classifyEgress
  try dsimp only
  repeat' split
  all_goals first | rfl | (simp; done)

@[simp] theorem State.setup_holdIngress (s : State) (n : LinkId) (a : AssocId) (e : Entry) :
    (s.holdIngress n a e).1.setup = s.setup := by
  unfold State.holdIngress
  try dsimp only
  repeat' split
  all_goals first | rfl | (simp; done)

@[simp] theorem State.setup_enterEnvelope (s : State) (n : LinkId) (a : AssocId) (e : Entry) :
    (s.enterEnvelope n a e).1.setup = s.setup := by
  unfold State.enterEnvelope
  try dsimp only
  repeat' split
  all_goals first | rfl | (simp; done)

@[simp] theorem State.setup_ingressEnvelope (s : State) (n : LinkId) (x : Bool) (f : Bytes) :
    (s.ingressEnvelope n x f).setup = s.setup := by
  unfold State.ingressEnvelope
  try dsimp only
  repeat' split
  all_goals first | rfl | (simp; done) | (rename_i h; have h' := congrArg (fun p => p.1.setup) h; simp at h'; simp [h'])

@[simp] theorem State.setup_ingressClear (s : State) (n : LinkId) (f : Bytes) : (s.ingressClear n f).setup = s.setup := by
  unfold State.ingressClear
  try dsimp only
  repeat' split
  all_goals first | rfl | (simp; done)

@[simp] theorem State.setup_ingressFrame (s : State) (n : LinkId) (f : Bytes) : (s.ingressFrame n f).setup = s.setup := by
  unfold State.ingressFrame
  try dsimp only
  repeat' split
  all_goals first | rfl | (simp; done)

@[simp] theorem State.setup_classifyIngress (s : State) (n : LinkId) : (s.classifyIngress n).setup = s.setup := by
  unfold State.classifyIngress
  try dsimp only
  repeat' split
  all_goals first | rfl | (simp; done)

@[simp] theorem State.setup_stall (s : State) (n : LinkId) (cause : StallCause) : (s.stall n cause).setup = s.setup := by
  unfold State.stall
  try dsimp only
  repeat' split
  all_goals first | rfl | (simp; done)

@[simp] theorem State.setup_coverOutcome (s : State) (n : LinkId) (why : Option Reason) : (s.coverOutcome n why).setup = s.setup := by
  unfold State.coverOutcome
  try dsimp only
  repeat' split
  all_goals first | rfl | (simp; done)

@[simp] theorem State.setup_countFormed (s : State) (n : LinkId) : (s.countFormed n).setup = s.setup := by
  unfold State.countFormed
  try dsimp only
  repeat' split
  all_goals first | rfl | (simp; done)

@[simp] theorem State.setup_formCover (s : State) (n : LinkId) (a : AssocId) : (s.formCover n a).setup = s.setup := by
  unfold State.formCover
  try dsimp only
  repeat' split
  all_goals first | rfl | (simp; done) | (rename_i h; have h' := congrArg (fun p => p.1.setup) h; simp at h'; simp [h'])

@[simp] theorem State.setup_tryCover (s : State) (n : LinkId) : (s.tryCover n).setup = s.setup := by
  unfold State.tryCover
  try dsimp only
  repeat' split
  all_goals first | rfl | (simp; done)

@[simp] theorem State.setup_scheduleCover (s : State) (n : LinkId) (after : Nat) : (s.scheduleCover n after).setup = s.setup := by
  unfold State.scheduleCover
  try dsimp only
  repeat' split
  all_goals first | rfl | (simp; done)

@[simp] theorem State.setup_coverExpiry (s : State) (n : LinkId) : (s.coverExpiry n).setup = s.setup := by
  unfold State.coverExpiry
  try dsimp only
  repeat' split
  all_goals first | rfl | (simp; done)

@[simp] theorem State.setup_endInstall (s : State) (i : Install) (result : Status) : (s.endInstall i result).setup = s.setup := by
  unfold State.endInstall
  try dsimp only
  repeat' split
  all_goals first | rfl | (simp; done)

@[simp] theorem State.setup_failInstall (s : State) (i : Install) : (s.failInstall i).setup = s.setup := by
  unfold State.failInstall
  try dsimp only
  repeat' split
  all_goals first | rfl | (simp; done)

@[simp] theorem State.setup_unwrapEnds (s : State) : (s.unwrapEnds).setup = s.setup := by
  unfold State.unwrapEnds
  try dsimp only
  repeat' split
  all_goals first | rfl | (simp; done)

@[simp] theorem State.setup_releaseIngressHold (s : State) (a : AssocId) (k : Key) : (s.releaseIngressHold a k).setup = s.setup := by
  unfold State.releaseIngressHold
  simp only [State.setup_setRecord, State.setup_setQueue, State.setup_dropEntries]

@[simp] theorem State.setup_completeInstall (s : State) (i : Install) (key salt : Bytes) :
    (s.completeInstall i key salt).setup = s.setup := by
  unfold State.completeInstall
  try dsimp only
  repeat' split
  all_goals first | rfl | (simp; done)

@[simp] theorem State.setup_expansionEnds (s : State) : (s.expansionEnds).setup = s.setup := by
  unfold State.expansionEnds
  try dsimp only
  repeat' split
  all_goals first | rfl | (simp; done)

@[simp] theorem State.setup_purgeTake (s : State) (p : Purge) : (s.purgeTake p).setup = s.setup := by
  unfold State.purgeTake
  try dsimp only
  repeat' split
  all_goals first | rfl | (simp; done)

@[simp] theorem State.setup_purgeVisit (s : State) : (s.purgeVisit).setup = s.setup := by
  unfold State.purgeVisit
  try dsimp only
  repeat' split
  all_goals first | rfl | (simp; done)

@[simp] theorem State.setup_purgeRecordFinished (s : State) : (s.purgeRecordFinished).setup = s.setup := by
  unfold State.purgeRecordFinished
  try dsimp only
  repeat' split
  all_goals first | rfl | (simp; done)

@[simp] theorem State.setup_abortLanes (s : State) : (s.abortLanes).setup = s.setup := by
  unfold State.abortLanes
  try dsimp only
  repeat' split
  all_goals first | rfl | (simp; done)

@[simp] theorem State.setup_endPausing (s : State) (d : Dir) (n : LinkId) : (s.endPausing d n).setup = s.setup := by
  unfold State.endPausing
  dsimp only
  split <;> simp

@[simp] theorem State.setup_clearQueue (s : State) (d : Dir) (n : LinkId) : (s.clearQueue d n).setup = s.setup := by
  unfold State.clearQueue
  try dsimp only
  repeat' split
  all_goals first | rfl | (simp; done)

@[simp] theorem State.setup_emptyRecords (s : State) : (s.emptyRecords).setup = s.setup := by
  unfold State.emptyRecords
  try dsimp only
  repeat' split
  all_goals first | rfl | (simp; done)

@[simp] theorem State.setup_answerCut (s : State) : (s.answerCut).setup = s.setup := by
  unfold State.answerCut
  try dsimp only
  repeat' split
  all_goals first | rfl | (simp; done)

@[simp] theorem State.setup_raisePort (s : State) (side : Side) (n : LinkId) : (s.raisePort side n).setup = s.setup := by
  unfold State.raisePort
  try dsimp only
  repeat' split
  all_goals first | rfl | (simp; done)

@[simp] theorem State.setup_refuse (s : State) (why : Status) : (s.refuse why).setup = s.setup := by
  unfold State.refuse
  try dsimp only
  repeat' split
  all_goals first | rfl | (simp; done)

@[simp] theorem State.setup_addFlow (s : State) (e : FlowEntry) : (s.addFlow e).setup = s.setup := by
  unfold State.addFlow
  try dsimp only
  repeat' split
  all_goals first | rfl | (simp; done)

@[simp] theorem State.setup_addFlowRequest (q : Request) (s : State) : (State.addFlowRequest q s).setup = s.setup := by
  unfold State.addFlowRequest
  try dsimp only
  repeat' split
  all_goals first | rfl | (simp; done)

@[simp] theorem State.setup_removeFlow (s : State) (k : FlowKey) : (s.removeFlow k).setup = s.setup := by
  unfold State.removeFlow
  try dsimp only
  repeat' split
  all_goals first | rfl | (simp; done)

@[simp] theorem State.setup_removeFlowRequest (q : Request) (s : State) : (State.removeFlowRequest q s).setup = s.setup := by
  unfold State.removeFlowRequest
  try dsimp only
  repeat' split
  all_goals first | rfl | (simp; done)

@[simp] theorem State.setup_openRecord (s : State) (a : AssocId) (d : Dir) (n : LinkId) (channel : Nat) (b : Bytes) :
    (s.openRecord a d n channel b).setup = s.setup := by
  unfold State.openRecord
  try dsimp only
  repeat' split
  all_goals first | rfl | (simp; done)

@[simp] theorem State.setup_openChecked (q : Request) (a : AssocId) (s : State) : (State.openChecked q a s).setup = s.setup := by
  unfold State.openChecked
  try dsimp only
  repeat' split
  all_goals first | rfl | (simp; done)

@[simp] theorem State.setup_rolloverChecked (a : AssocId) (s : State) : (State.rolloverChecked a s).setup = s.setup := by
  unfold State.rolloverChecked
  try dsimp only
  repeat' split
  all_goals first | rfl | (simp; done)

@[simp] theorem State.setup_takeInstall (s : State) (f : InstallFields) : (s.takeInstall f).setup = s.setup := by
  unfold State.takeInstall
  try dsimp only
  repeat' split
  all_goals first | rfl | (simp; done)

@[simp] theorem State.setup_installChecked (f : InstallFields) (s : State) : (State.installChecked f s).setup = s.setup := by
  unfold State.installChecked
  try dsimp only
  repeat' split
  all_goals first | rfl | (simp; done)

@[simp] theorem State.setup_purgeRequest (q : Request) (s : State) : (State.purgeRequest q s).setup = s.setup := by
  unfold State.purgeRequest
  try dsimp only
  repeat' split
  all_goals first | rfl | (simp; done)

@[simp] theorem State.setup_awaitBoundary (s : State) (stop : Stop) : (s.awaitBoundary stop).setup = s.setup := by
  unfold State.awaitBoundary
  try dsimp only
  repeat' split
  all_goals first | rfl | (simp; done)

@[simp] theorem State.setup_suspendPurge (s : State) : (s.suspendPurge).setup = s.setup := by
  unfold State.suspendPurge
  try dsimp only
  repeat' split
  all_goals first | rfl | (simp; done)

@[simp] theorem State.setup_resumePurge (s : State) : (s.resumePurge).setup = s.setup := by
  unfold State.resumePurge
  try dsimp only
  repeat' split
  all_goals first | rfl | (simp; done)

@[simp] theorem State.setup_cancelPurge (s : State) : (s.cancelPurge).setup = s.setup := by
  unfold State.cancelPurge
  try dsimp only
  repeat' split
  all_goals first | rfl | (simp; done)

@[simp] theorem State.setup_provisionRead (q : Request) (s : State) : (State.provisionRead q s).setup = s.setup := by
  unfold State.provisionRead
  try dsimp only
  repeat' split
  all_goals first | rfl | (simp; done)

end Sys2Proof.Machine
end

