-- ==== Sys2Proof/Laws/Requests.lean ====
section
/-! SUPPORT. What the shared operations of the control unit do: the beginning of a request, its reply, and the items of a repeat. -/

namespace Sys2Proof.Machine

/-! ### Replies -/

/-- R165: the reply of a request that is not repeatable, and the transmitter's choice, as one write of the control unit. -/
theorem answerOnce_pump {s : State} {q : Request} {rest : List Request} (h : s.control.requests = q :: rest) (st : Status) (fl : Flags)
    (body : Bytes) : (s.answerOnce st fl body).pump = s.withControl (s.control.replied q st fl body) := by
  simp [State.answerOnce, State.answer, State.pump, Control.replied, Control.repeatAsked, h, State.withControl]

/-- R164: a reply and the transmitter's choice, as one write of the control unit. -/
theorem answer_pump (s : State) (st : Status) (fl : Flags) (k : Nat) (body : Bytes) :
    (s.answer st fl k body).pump = s.withControl (s.control.answer st fl k body).pump := rfl

/-- R165: a refusal by the general checks, as one write of the control unit. -/
theorem refuse_pump (s : State) (st : Status) :
    (s.refuse st).pump = s.withControl (s.control.answer st Flags.none 0 []).pump := rfl

/-! ### Beginnings -/

/-- R164: the request that can begin is the one at the head. -/
theorem ready_of_canBegin {s : State} {q : Request} {rest : List Request} (h : s.canBegin q rest) : s.ready? = some q := by
  obtain ⟨h1, h2, h3, h4⟩ := h
  have h5 : (s.control.replies.all fun r => !r.executed) = true := by simpa using h3
  simp [State.ready?, h1, Control.free, h2, h5, h4]

/-- R164: a command for another code does not begin the request at the head. -/
theorem beginRequest_of_other {s : State} {q : Request} {rest : List Request} {code : Byte} (h : s.canBegin q rest)
    (hc : q.code ≠ code) (a c : Bool) : s.beginRequest code a c = none := by
  simp [State.beginRequest, ready_of_canBegin h, hc]

/-- R164, R165: the request at the head begins, with the outcome of its general checks. -/
theorem beginRequest_of_canBegin {s : State} {q : Request} {rest : List Request} {code : Byte} (h : s.canBegin q rest)
    (hc : q.code = code) (a c : Bool) : s.beginRequest code a c = some (q, generalCheck s.device.state a c q) := by
  simp [State.beginRequest, ready_of_canBegin h, hc]

/-- R164, R165: a request of `code` that asks nothing conditional passes its general checks. -/
theorem beginRequest_of_asks {s : State} {q : Request} {rest : List Request} {code : Byte} (h : s.asks q rest code) (a c : Bool) :
    s.beginRequest code a c = some (q, none) := by
  obtain ⟨h1, h2, h3, h4⟩ := h
  rw [beginRequest_of_canBegin h1 h3]
  simp [generalCheck, h2, h4]

/-- R164, R165: a conditional request with a condition of Table 10-3 passes its general checks. -/
theorem beginRequest_of_cond {s : State} {q : Request} {rest : List Request} {code : Byte} (h : s.canBegin q rest)
    (hr : s.device.state = .running) (hc : q.code = code) (h7 : q.cond.toNat ≤ 7) (a : Bool) :
    s.beginRequest code a true = some (q, none) := by
  rw [beginRequest_of_canBegin h hc]
  simp [generalCheck, hr]; omega

/-- R164: what a request that is not repeatable does once it begins. -/
theorem runOnce_of_asks {s : State} {q : Request} {rest : List Request} {code : Byte} (h : s.asks q rest code) (a c : Bool)
    (act : Request → State → State) : s.runOnce code a c act = (act q s).pump := by
  simp [State.runOnce, beginRequest_of_asks h]

/-- R164: the same for a conditional request with its condition. -/
theorem runOnce_of_cond {s : State} {q : Request} {rest : List Request} {code : Byte} (h : s.canBegin q rest)
    (hr : s.device.state = .running) (hc : q.code = code) (h7 : q.cond.toNat ≤ 7) (a : Bool) (act : Request → State → State) :
    s.runOnce code a true act = (act q s).pump := by
  simp [State.runOnce, beginRequest_of_cond h hr hc h7]

/-- R164, R172, R173: the same for a request that any device state executes. -/
theorem runOnce_of_any {s : State} {q : Request} {rest : List Request} {code : Byte} (h : s.canBegin q rest) (hc : q.code = code)
    (h0 : q.cond = 0) (c : Bool) (act : Request → State → State) : s.runOnce code true c act = (act q s).pump := by
  simp [State.runOnce, beginRequest_of_canBegin h hc, generalCheck, h0]

/-- R165: a body of the right length reaches the request's own checks. -/
theorem withBody_of_length {s : State} {q : Request} {len : Nat} (h : q.body.length = len) (act : State) : s.withBody q len act = act := by
  simp [State.withBody, h]

/-! ### Repeats -/

/-- R167: a repeatable request that begins, as its whole-body checks and its first item. -/
theorem runRepeat_of_idle {s : State} {k : Repeatable} {q : Request} {rest : List Request} (h : s.canBegin q rest)
    (hb : s.beginRequest k.code false k.conditional = some (q, none)) : s.runRepeat k = (s.beginRepeat k q).pump := by
  obtain ⟨h1, h2, -, -⟩ := h
  simp [State.runRepeat, h1, h2, hb]

/-- R165: a repeatable request that its general checks refuse. -/
theorem runRepeat_of_refused {s : State} {k : Repeatable} {q : Request} {rest : List Request} {why : Status} (h : s.canBegin q rest)
    (hb : s.beginRequest k.code false k.conditional = some (q, some why)) : s.runRepeat k = (s.refuse why).pump := by
  obtain ⟨h1, h2, -, -⟩ := h
  simp [State.runRepeat, h1, h2, hb]

/-- R167: a repeat that waits between two items does its next one. -/
theorem runRepeat_of_items {s : State} {k : Repeatable} {q : Request} {rest : List Request} {i left done : Nat} {fl : Flags}
    {data : Bytes} (h1 : s.control.requests = q :: rest) (h2 : s.control.exec = .items i left done fl data) (hc : q.code = k.code) :
    s.runRepeat k = (s.doItem k q i left done fl data).pump := by
  simp [State.runRepeat, h1, h2, hc]

/-- R167: the whole-body checks pass and the first item is done. -/
theorem beginRepeat_of_good {s : State} {k : Repeatable} {q : Request} (h1 : q.body.length = k.bodyLength) (h2 : k.first q ≤ k.lastIndex)
    (h3 : k.bodyCheck q = none) :
    s.beginRepeat k q = s.doItem k q (k.first q) (q.repeatCount.toNat + 1) 0 Flags.none [] := by
  simp [State.beginRepeat, h1, h3, Nat.not_lt.mpr h2]

/-- R167: the last item asked for. -/
theorem doItem_last {s : State} {k : Repeatable} {q : Request} {i left done : Nat} {fl : Flags} {data : Bytes} (h : left ≤ 1) :
    s.doItem k q i left done fl data
      = (k.item q i s).1.answer .ok (fl.join (k.item q i s).2.1) ((done + 1) % 256) (data ++ (k.item q i s).2.2) := by
  simp [State.doItem, h]

/-- R167: an item after which the repeat is cut. -/
theorem doItem_cut {s : State} {k : Repeatable} {q : Request} {i left done : Nat} {fl : Flags} {data : Bytes} (h : 1 < left)
    (hc : k.lastIndex ≤ i ∨ Config.replyBodyMax < (data ++ (k.item q i s).2.2).length + k.size (k.item q i s).1 (i + 1)) :
    s.doItem k q i left done fl data
      = (k.item q i s).1.answer .ok { fl.join (k.item q i s).2.1 with clamped := true } ((done + 1) % 256)
          (data ++ (k.item q i s).2.2) := by
  simp only [State.doItem, Nat.not_le.mpr h, if_false]
  rw [if_pos hc]

/-- R167: an item after which the next one waits. -/
theorem doItem_next {s : State} {k : Repeatable} {q : Request} {i left done : Nat} {fl : Flags} {data : Bytes} (h : 1 < left)
    (hc : ¬(k.lastIndex ≤ i ∨ Config.replyBodyMax < (data ++ (k.item q i s).2.2).length + k.size (k.item q i s).1 (i + 1))) :
    s.doItem k q i left done fl data
      = (k.item q i s).1.withControl
          { (k.item q i s).1.control with
            exec := .items (i + 1) (left - 1) (done + 1) (fl.join (k.item q i s).2.1) (data ++ (k.item q i s).2.2) } := by
  simp only [State.doItem, Nat.not_le.mpr h, if_false]
  rw [if_neg hc]

/-- The flags of an item that sets none. -/
@[simp] theorem Flags.join_none (f : Flags) : f.join Flags.none = f := by
  cases f; simp [Flags.join, Flags.none]

/-- The flags of the first item. -/
@[simp] theorem Flags.none_join (f : Flags) : Flags.none.join f = f := by
  cases f; simp [Flags.join, Flags.none]

end Sys2Proof.Machine
end

