-- ==== Sys2Proof/WellFormed.lean ====
section
/-! DEFINITION. Which commands are well formed. Links, lanes, records and phases are in range by their types; what is left are the
byte strings that an event must have brought. -/

namespace Sys2Proof

/-- A command is well formed when the bytes of the event it names are there: a received frame, a completed host frame and an
abandoned LENGTH field each have at least one byte (R140, R161, R162). -/
def Instr.wellFormed : Instr → Bool
  | .frameArrival _ _ bytes => !bytes.isEmpty
  | .hostFrameReceived bytes => !bytes.isEmpty
  | .frameLengthOutOfRange bytes => !bytes.isEmpty
  | _ => true

end Sys2Proof
end

