-- ==== Sys2Proof/Tests/Slice0.lean ====
section
/-! SUPPORT. Small tests: the spec's worked examples, published vectors of the standards it names, and, for each statement with
hypotheses, a state and operands that meet them (`witness_<statement>`). -/

open Sys2Proof Sys2Proof.Machine

namespace Sys2Proof.Tests

-- One theorem at a time: evaluated in parallel, these tests together need more memory than a build has.
set_option Elab.async false

/-! ### Small states -/

/-- The state after a command. -/
def after (i : Instr) (s : State) : State :=
  match exec i s with
  | .next t => t
  | .fault _ => State.reset
  | .refused _ => State.reset

/-- A RUNNING device with every lane IDLE and every port UP. -/
def running : State :=
  ((State.reset.withDevice { State.reset.device with state := .running }).withLanes (Vector.replicate 8 .idle)).withLinks
    (Vector.replicate 4 { Link.blank true true with rack := { Port.down true with up := true }, campus := { Port.down true with up := true } })

/-- A request that asks for nothing conditional and no repeat. -/
def req (code : Byte) (body : Bytes) : Request := { tag := 7, code := code, repeatCount := 0, cond := 0, carg := 0, body := body }

/-- A state with one request at the head. -/
def ask (s : State) (q : Request) : State := s.withControl { s.control with requests := [q] }

/-- What the transmitter sends for an executed request: STATUS, FLAGS, DONE-COUNT, body. -/
def replyLine (q : Request) (rest : Bytes) : Option Bytes := some (lineFrame ([0x52, q.tag, q.code] ++ rest))

/-- A key in service. -/
def curKey : Key := { loadingKey 1 with state := .inUse, n := 1, check := [1, 2, 3] }

/-- A staged key. -/
def nxtKey : Key := { loadingKey 2 with state := .ready, n := 1, check := [4, 5, 6] }

/-- A LIVE egress record of link 0 with a CUR key. -/
def live : Record := { Record.blank 41 with state := .live, cur := some curKey }

/-- A LIVE ingress record of link 0 whose CUR key has a window of size 4. -/
def liveIn : Record := { Record.blank 20 with state := .live, dir := .ingress, channel := 900, cur := some { curKey with window := Window.empty 4 } }

/-- A minimal untagged frame of 64 bytes, EtherType 0x0800, with its FCS. -/
def frame64 : Bytes := withFcs ([2, 0, 0, 0, 0, 1, 2, 0, 0, 0, 0, 2, 8, 0] ++ zeros 46)

/-- An envelope of 64 bytes: version 1, phase `p`, channel 900, packet number `pn`; its tag is not a true one. -/
def envelope64 (p : Phase) (pn : Nat) : Bytes :=
  zeros 12 ++ u16 0xB7A1 ++ [flagsByte p false, 0] ++ u16 900 ++ u32 pn ++ zeros 42

/-- A frame as an order-queue entry. -/
def entry (st : EntryState) (a : Option AssocId) (k : Option Phase) (pn : Option Nat) : Entry :=
  { kind := .frame, verdict := .encrypt, assoc := a, key := k, pn := pn, phase := 0, env := envValues false 48 0 false 48, cells := 1,
    coverCode := 0, data := frame64, state := st }

/-- A link with changes. -/
def onLink (s : State) (n : LinkId) (f : Link → Link) : State := s.setLink n (f (s.link n))

/-- A port changed. -/
def onPort (s : State) (side : Side) (n : LinkId) (f : Port → Port) : State := s.setPort side n (f (s.port side n))

/-- The path changed. -/
def onPath (s : State) (d : Dir) (n : LinkId) (f : Path → Path) : State := s.setPath d n (f (s.path d n))

/-- A queue with one cell taken for each entry. -/
def queued (s : State) (d : Dir) (n : LinkId) (q : List Entry) : State :=
  s.setPath d n { s.path d n with queue := q, free := 2048 - q.length }

/-- A state with some frames stored and their cells taken. -/
def storing (s : State) (d : Dir) (n : LinkId) (fs : List Bytes) : State :=
  s.setPath d n { s.path d n with stored := fs, free := 2048 - fs.length }

/-! ### WellFormed and Decode -/

theorem test_wellFormed_refuses_empty_frame : (Instr.frameArrival .rack 0 []).wellFormed = false := by decide
theorem test_wellFormed_refuses_empty_host_frame : (Instr.hostFrameReceived []).wellFormed = false := by decide
theorem test_wellFormed_refuses_empty_length : (Instr.frameLengthOutOfRange []).wellFormed = false := by decide
theorem test_wellFormed_accepts : (Instr.frameArrival .rack 0 [1]).wellFormed = true ∧ Instr.laneGrant.wellFormed = true := by decide
/-- No row of the table has bits (log 25). -/
theorem test_no_word_spells_a_command : decodeTableWord 8 0x21 = none ∧ running.withFetchWord 8 0x21 = running := ⟨rfl, rfl⟩

/-! ### Standards that the spec names -/

/-- R160: the check value that the rule gives for the ASCII string 123456789. -/
theorem test_crc16_check : crc16 [0x31, 0x32, 0x33, 0x34, 0x35, 0x36, 0x37, 0x38, 0x39] = [0x29, 0xB1] := by decide +kernel

/-- The check value of the Ethernet CRC, 0xCBF43926, least significant byte first on the wire (log 6). -/
theorem test_ethernet_fcs_check :
    ethernetFcs [0x31, 0x32, 0x33, 0x34, 0x35, 0x36, 0x37, 0x38, 0x39] = [0x26, 0x39, 0xF4, 0xCB] := by decide +kernel

/-- FIPS-197 appendix C.3. -/
theorem test_aes256_fips197 : aesEncrypt ((List.range 32).map (BitVec.ofNat 8)) ((List.range 16).map fun i => BitVec.ofNat 8 (17 * i))
    = [0x8e, 0xa2, 0xb7, 0xca, 0x51, 0x67, 0x45, 0xbf, 0xea, 0xfc, 0x49, 0x90, 0x4b, 0x49, 0x60, 0x89] := by decide +kernel

/-- Test case 13 of the GCM specification: AES-256, all-zero key and nonce, nothing to encrypt. -/
theorem test_gcm_tag_empty : gcmTag (zeros 32) (hashKeyOf (zeros 32)) (zeros 12) [] []
    = [0x53, 0x0f, 0x8a, 0xfb, 0xc7, 0x45, 0x36, 0xb9, 0xa9, 0x63, 0xb4, 0xf1, 0xc4, 0xcb, 0x73, 0x8b] := by decide +kernel

/-- Test case 14: one block of zeros, its ciphertext and tag. -/
theorem test_gcm_one_block : gcmCrypt (zeros 32) (zeros 12) (zeros 16)
      = [0xce, 0xa7, 0x40, 0x3d, 0x4d, 0x60, 0x6b, 0x6e, 0x07, 0x4e, 0xc5, 0xd3, 0xba, 0xf3, 0x9d, 0x18]
    ∧ gcmTag (zeros 32) (hashKeyOf (zeros 32)) (zeros 12) []
        [0xce, 0xa7, 0x40, 0x3d, 0x4d, 0x60, 0x6b, 0x6e, 0x07, 0x4e, 0xc5, 0xd3, 0xba, 0xf3, 0x9d, 0x18]
      = [0xd0, 0xd1, 0xc8, 0xa7, 0x99, 0x99, 0x6b, 0xf0, 0x26, 0x5b, 0x98, 0xb5, 0xd4, 0x8a, 0xb9, 0x19] := by decide +kernel

/-! ### Chapter 1 -/

/-- Table 1-4, case (a): P, z, P′, E, B. -/
theorem test_envelope_case_a : envelopeOf 1518 true 64 9600
    = some ({ x := true, plain := 1498, z := 36, padded := true, ctLen := 1536, envLen := 1582, charge := 100 }, false) := by decide +kernel

/-- Case (b): reduced padding. -/
theorem test_envelope_case_b : envelopeOf 1518 true 64 1560
    = some ({ x := true, plain := 1498, z := 14, padded := true, ctLen := 1514, envLen := 1560, charge := 99 }, true) := by decide +kernel

/-- Cases (c), (d) and (e). -/
theorem test_envelope_cases_c_d_e :
    envelopeOf 64 false 0 9600 = some ({ x := false, plain := 48, z := 0, padded := false, ctLen := 48, envLen := 90, charge := 7 }, false)
    ∧ envelopeOf 1590 false 0 1600 = none
    ∧ envelopeOf 64 false 256 9600
      = some ({ x := false, plain := 48, z := 206, padded := true, ctLen := 256, envLen := 298, charge := 20 }, false) := by decide +kernel

/-- Section 1.5.1: opening case (e), and the two malformed trailers. -/
theorem test_unpadding : (unpad true (List.replicate 48 7 ++ zeros 206 ++ [0, 206])).map List.length = some 48
    ∧ unpad true (zeros 254 ++ [0, 0xFE]) = none
    ∧ restoreFrame false true (zeros 22 ++ [8, 0] ++ zeros 252 ++ [0, 0xFC]) = none := by decide +kernel

/-- Sealing and opening: the envelope of a frame opens to the frame. -/
theorem test_seal_then_open :
    let f : Fetched := { material := zeros 32, hashKey := hashKeyOf (zeros 32), salt := zeros 8, phase := 1, channel := 900, envType := 0xB7A1 }
    let e := { entry .waiting (some 900) (some 1) (some 1) with data := frame64, env := envValues false 48 0 false 48 }
    (openEnvelope { e with verdict := .opening, data := withFcs (buildEnvelope e f) } f).bind (restoreFrame false false)
      = some (frame64.take 60, 0x0800) := by decide +kernel

/-! ### Chapters 4, 5 and 7 -/

/-- Section 5.6.1: the buckets of F1 and FA. -/
theorem test_flow_buckets : ({ link := 2, vid := 100, addr := some [0x02, 0x1A, 0, 0, 0x0B, 0x07] } : FlowKey).bucket = 889
    ∧ ({ link := 2, vid := 100, addr := none } : FlowKey).bucket = 206 := by decide +kernel

/-- Section 5.6.2: rule 1, COUNT (4000, 200), is clamped to 4096. -/
theorem test_rule_count_clamped : ruleHigh 1 4000 200 4096 = some (4096, true) ∧ ruleHigh 0 5 4 4096 = none := by decide

/-- Section 7.7.1: the window sequence. -/
theorem test_window_sequence : (Window.empty 4).passes [1, 2, 5, 3, 3, 1, 6] = [1, 2, 5, 3, 6]
    ∧ ((((((Window.empty 4).accept 1).accept 2).accept 5).accept 3).accept 6).marked = [6, 3, 5] := by decide +kernel

/-- R67: the last packet number spends the key. -/
theorem test_last_packet_number : ({ curKey with n := 0xFFFFFFFF }.charge 7).state = .spent ∧ ({ curKey with n := 0xFFFFFFFF }.charge 7).n = 0
    ∧ { curKey with n := 0xFFFFFFFE }.assigns [7, 7, 7] = [0xFFFFFFFE, 0xFFFFFFFF] := by decide +kernel

/-! ### Chapters 2, 9, 10 and 11 -/

/-- Section 9.4.3: five fields set, two clamped or raised, two held. -/
def clampBody : Bytes :=
  [3, 1, 0x81, 0x00] ++ [0, 0, 0, 0, 0, 0] ++ [1, 7] ++ [0, 0, 0] ++ zeros 10 ++ [1] ++ u16 1800 ++ [0, 0, 0] ++ [1] ++ u16 1000
    ++ [0, 0, 0] ++ zeros 6 ++ [1, 0, 0] ++ zeros 9

theorem test_clamps_and_holds : clampBody.length = 55
    ∧ (applyLinkParams LinkParams.default clampBody).1
      = { LinkParams.default with coverInterval := 1, egressBuf := { xoff := 1800, xon := 1801, quanta := 0xFFFF } }
    ∧ (applyLinkParams LinkParams.default clampBody).2 = { clamped := true, held := true, repeatIgnored := false } := by decide +kernel

/-- Section 2.11.1: OPEN-ASSOC of record 1300 with IF-GEN 41; e = 44 is clamped, W ignored. -/
def openBody : Bytes :=
  u16 1300 ++ [0, 2] ++ u16 77 ++ [1, 0, 1, 1, 1, 0, 1, 1, 1] ++ u16 64 ++ [0] ++ u32 0 ++ [1, 44] ++ [1] ++ u16 300

def openAsked : State := ask (running.setRecord 1300 (Record.blank 41)) { req 0x30 openBody with cond := 7, carg := 41 }

theorem test_open_assoc : ((after .openAssoc openAsked).record 1300)
      = { Record.blank 42 with
          state := .opened, link := 2, channel := 77
          params := { AssocParams.default with expose := true, quantum := 64, capExp := 40 } }
    ∧ (after .openAssoc openAsked).control.sending = replyLine (req 0x30 []) [0, 1, 0, 42] := by decide +kernel

/-- Section 2.11.4: READ-ASSOC at 2044 stops at the end of the Store: four commands, then the reply with CLAMPED and DONE-COUNT 4. -/
theorem test_repeat_end_of_store :
    let s := ask running { req 0x32 (u16 2047) with repeatCount := 20 }
    (after .readAssoc s).control.sending = replyLine (req 0x32 []) ([0, 1, 1] ++ ((running.record 2047).report 2047 0)) := by
  decide +kernel

/-- Section 10.7.2: ADD-FLOW with REPEAT 3 adds its one entry, with REPEAT-IGNORED and DONE-COUNT 0. -/
theorem test_add_flow_repeat_ignored :
    let s := ask running { req 0x21 ([2] ++ u16 100 ++ [0, 0x02, 0x1A, 0, 0, 0x0B, 0x07, 0] ++ u16 1300) with repeatCount := 3 }
    (after .addFlow s).control.sending = replyLine (req 0x21 []) ([0, 4, 0] ++ u16 889 ++ [1]) := by decide +kernel

/-- Section 11.6: three lanes ... the health map of STARTED-UP when lane 5 has failed is 0xDF. -/
theorem test_started_up : (after (.selfTestComplete 0xDF true) State.reset).control.sending = some (lineFrame [0x53, 0, 0x01, 1, 0xDF, 0])
    ∧ (after (.selfTestComplete 0xDF true) State.reset).lane 5 = .failed := by decide +kernel


/-! ### Witnesses: the whole part and its invariants -/

theorem witness_StepRunsFront : (running.withPending [.laneGrant]).pending = .laneGrant :: [] ∧ State.reset.pending = []
    ∧ ∃ t, exec .laneGrant running = .next t := ⟨rfl, rfl, _, rfl⟩

/-- A RUNNING part with a frame stored on each side of link 0 and entries in a queue. -/
def busy : State := storing (queued running .egress 1 [entry .waiting (some 5) (some 1) (some 1)]) .egress 0 [frame64]

theorem buffersSound_of_links {s : State} (h : ∀ n : Fin 4, (s.path .egress n).sound ∧ (s.path .ingress n).sound) : s.buffersSound := by
  intro d n; cases d
  · exact (h n).1
  · exact (h n).2

theorem witness_BuffersStaySound : busy.buffersSound ∧ ∃ t, step (busy.withPending [.egressClassification 0]) = .next t :=
  ⟨buffersSound_of_links (by decide +kernel), _, rfl⟩

/-- A part that has taken an INSTALL-KEY in clear into CUR of an OPENED record. -/
def installBody (toNxt : Byte) : Bytes := u16 5 ++ [toNxt, 1, 1, 0] ++ List.replicate 32 9 ++ List.replicate 8 3

def installing : State :=
  after .installKey (ask (running.setRecord 5 { Record.blank 3 with state := .opened }) (req 0x34 (installBody 0)))

theorem witness_ControlStaysSound : installing.controlSound ∧ ∃ t, step (installing.withPending [.installComplete]) = .next t :=
  ⟨by decide +kernel, _, rfl⟩

/-- An OPENED record whose CUR slot an INSTALL-KEY in clear is filling. -/
def opened5 : Record := { Record.blank 3 with state := .opened, cur := some (loadingKey 1) }

/-- A RUNNING device in which that install has had its first check. -/
def expanding : State :=
  ((running.setRecord 5 opened5).withBank { running.bank with
    install := some { index := 5, toNxt := false, phase := 1, stage := .expanding (List.replicate 32 9) (List.replicate 8 3) } }).withControl
    { Control.blank with exec := .installing, requests := [req 0x34 (installBody 0)] }

theorem expanding_record (a : AssocId) : expanding.record a = if a = 5 then opened5 else Record.blank 0 := by
  by_cases h : a = 5
  · subst h; rw [if_pos rfl]; exact State.record_setRecord_same running 5 opened5
  · rw [if_neg h]; refine (State.record_setRecord_ne running opened5 h).trans ?_
    simp [State.record, running, State.reset]

theorem witness_ParamsStayInRange : expanding.paramsInRange ∧ ∃ t, step expanding = .next t := by
  refine ⟨⟨?_, ?_⟩, _, rfl⟩
  · show ∀ n : Fin 4, (expanding.params n).inRange; decide +kernel
  · intro a; rw [expanding_record]
    by_cases h : a = 5 <;> simp only [h, if_true, if_false] <;> decide +kernel

theorem witness_StoreStaysSound : expanding.controlSound ∧ expanding.storeSound ∧ ∃ t, step expanding = .next t := by
  refine ⟨by decide +kernel, ⟨?_, ?_⟩, _, rfl⟩
  · intro a; rw [expanding_record]
    by_cases h : a = 5 <;> simp only [h, if_true, if_false] <;> decide +kernel
  · intro i h
    cases h
    unfold State.installSound
    rw [expanding_record]
    decide +kernel

/-- A LIVE egress record whose key has the one entry of the order queues in flight. -/
def carrying : State :=
  queued (running.setRecord 5 { live with cur := some { curKey with inFlight := 1 } }) .egress 0 [entry .waiting (some 5) (some 1) (some 1)]

theorem carrying_record (a : AssocId) :
    carrying.record a = if a = 5 then { live with cur := some { curKey with inFlight := 1 } } else Record.blank 0 := by
  by_cases h : a = 5
  · subst h; exact State.record_setRecord_same running 5 _
  · rw [if_neg h]; refine (State.record_setRecord_ne running _ h).trans ?_
    simp [State.record, running, State.reset]

theorem carrying_countFor (a : AssocId) (p : Phase) : carrying.countFor a p = if a = 5 ∧ p = 1 then 1 else 0 := by
  have h : carrying.countFor a p = [entry .waiting (some 5) (some 1) (some 1)].countP (Entry.countsFor a p) := rfl
  have h' : Entry.countsFor a p (entry .waiting (some 5) (some 1) (some 1)) = (decide (5 = a) && decide (1 = p) && true) := rfl
  rw [h, List.countP_singleton, h']
  simp only [Bool.and_true, Bool.and_eq_true, decide_eq_true_eq, eq_comm (a := a), eq_comm (a := p)]

theorem witness_InFlightCountsStayExact :
    carrying.controlSound ∧ carrying.storeSound ∧ carrying.countsSound ∧ ∃ t, step (carrying.withPending [.laneGrant]) = .next t := by
  refine ⟨by decide +kernel, ⟨fun a => ?_, ?_⟩, ⟨fun a p => ?_, ?_, fun a => ?_⟩, _, rfl⟩
  · rw [carrying_record]
    by_cases h : a = 5 <;> simp only [h, if_true, if_false] <;> decide +kernel
  · intro i h; cases h
  · rw [carrying_countFor, carrying_record]
    by_cases h : a = 5 <;> simp only [h, if_true, if_false, true_and, false_and] <;> revert p <;> decide +kernel
  · refine ⟨fun l d n => ?_, by decide +kernel⟩
    revert l n; cases d <;> decide +kernel
  · rw [carrying_record]
    by_cases h : a = 5 <;> simp only [h, if_true, if_false] <;>
      refine ⟨fun k hk => ?_, fun _ k hk => ?_⟩ <;> simp_all [live, Record.blank, curKey, loadingKey]
    all_goals (subst hk; simp_all)

theorem witness_PacketNumbersRise : 1 ≤ ({ curKey with n := 0xFFFFFFFF } : Key).n ∧ ({ curKey with n := 0xFFFFFFFF } : Key).n ≤ 0xFFFFFFFF
    ∧ ({ curKey with n := 0xFFFFFFFF } : Key).assigns [7, 7] = [0xFFFFFFFF] := by decide +kernel

theorem witness_FlowTableStaysSound : FlowTable.blank.sound ∧ (∃ t, step running = .next t) ∧ running.flow = FlowTable.blank := by
  refine ⟨fun b => ?_, ⟨_, rfl⟩, rfl⟩
  simp [FlowTable.chain, FlowTable.blank]

/-! ### Witnesses: requests -/

/-- F1 of section 5.6.1. -/
def flowBody : Bytes := [2] ++ u16 100 ++ [0, 0x02, 0x1A, 0, 0, 0x0B, 0x07]

theorem witness_GeneralChecksRefuse :
    ((ask State.reset (req 0x10 [])).canBegin (req 0x10 []) [] ∧ State.reset.device.state ≠ .running ∧ requestCode .setLinkMode = some 0x10)
    ∧ (∃ q, (ask running q).canBegin q [] ∧ q.code = 0x32 ∧ q.cond = 3 ∧ Instr.readAssoc ∉
        [Instr.openAssoc, .setAssoc, .testAssoc, .installKey, .rollover, .retire])
    ∧ (∃ q, (ask running q).canBegin q [] ∧ q.code = 0x33 ∧ q.cond = 8)
    ∧ ((ask State.reset (req 0x05 [])).canBegin (req 0x05 []) [] ∧ (0x05 : Byte) ∉ requestCodes)
    ∧ (0x52 : Byte) ∈ requestCodes
    ∧ ((ask running (req 0x21 flowBody)).canBegin (req 0x21 flowBody) [] ∧ bodyLengthOf .addFlow = some 13 ∧ flowBody.length = 10)
    ∧ (let q := { req 0x35 [5] with cond := 5 }; (ask running q).canBegin q [] ∧ bodyLengthOf .rollover = some 2 ∧ q.body.length ≠ 2) :=
  ⟨by decide +kernel, ⟨{ req 0x32 [] with cond := 3 }, by decide +kernel⟩, ⟨{ req 0x33 [] with cond := 8 }, by decide +kernel⟩, by decide +kernel⟩

/-- R165: a key that is cut short is refused for its length. -/
theorem test_bad_length : (after .removeFlow (ask running { req 0x22 (flowBody.take 9) with repeatCount := 4 })).control.sending
    = replyLine (req 0x22 []) [0x11, 4, 0] := by decide +kernel

/-- Section 10.7.2: the three refusals. -/
theorem test_general_checks :
    (after .readAssoc (ask running { req 0x32 [] with cond := 3 })).control.sending = replyLine (req 0x32 []) [0x15, 0, 0]
    ∧ (after .testAssoc (ask running { req 0x33 [] with cond := 9 })).control.sending = replyLine (req 0x33 []) [0x12, 0, 0]
    ∧ (after .testAssoc (ask State.reset { req 0x33 [] with cond := 9 })).control.sending = replyLine (req 0x33 []) [0x51, 0, 0] := by
  decide +kernel

def readyReply : Reply :=
  { executed := true, tag := 0, code := 1, status := .ok, flags := Flags.none, doneCount := 0, body := [] }

theorem witness_RequestsWaitTheirTurn : installing.control.exec = .installing
    ∧ (∃ c : Control, c.exec = .idle ∧ ∃ r ∈ c.replies, r.executed = true)
    ∧ (let s := after .testAssoc (ask running { req 0x33 (u16 0) with repeatCount := 1 })
       s.control.exec = .items 1 1 1 Flags.none [0, 0, 0, 0] ∧ (s.control.requests.map Request.code) = [0x33] ∧ requestCode .readAssoc = some 0x32
       ∧ (after .readAssoc s).control = s.control) :=
  ⟨by decide +kernel, ⟨{ Control.blank with replies := [readyReply] }, rfl, _, List.mem_singleton_self _, rfl⟩, by decide +kernel⟩

theorem witness_PartDescribesItself : (ask State.reset (req 0x01 [])).canBegin (req 0x01 []) []
    ∧ (ask State.reset (req 0x02 [])).canBegin (req 0x02 []) [] := by decide +kernel

/-- R172: the IDENTIFY reply of a part whose eight lanes are good is 95 bytes long. -/
theorem test_identify_length : running.identity.length = 95 ∧ (running.identity.take 5) = [0x0D, 0x4A, 0x44, 0x10, 0] := by decide +kernel

theorem witness_ProvisionReadReportsOneHalf :
    (∀ b : Fin 3, (ask running (req 0x52 [BitVec.ofNat 8 b.val])).asks (req 0x52 [BitVec.ofNat 8 b.val]) [] 0x52)
    ∧ (ask running (req 0x52 [])).asks (req 0x52 []) [] 0x52
    ∧ (ask running { req 0x52 [] with cond := 1 }).canBegin { req 0x52 [] with cond := 1 } []
    ∧ (let s := ask (running.withProv { running.prov with kwk := some (zeros 32, [1, 2, 3]) }) (req 0x52 [1])
       s.asks (req 0x52 [1]) [] 0x52 ∧ (after .provisionRead s).control.sending
        = replyLine (req 0x52 []) ([0, 0, 0] ++ [1, 1, 2, 3, 0, 0] ++ zeros 64 ++ [0])) := by decide +kernel

/-- A READ-ASSOC of two records that has done the first. -/
def between : Execution := .items 1 1 1 Flags.none (zeros 128)

theorem witness_ZeroizationDestroysKeys : (ask running (req 0x04 [])).asks (req 0x04 []) [] 0x04
    ∧ installing.device.state ≠ .inReset ∧ installing.device.resetWaits = false ∧ installing.control.exec = .installing
    ∧ installing.control.requests = [req 0x34 (installBody 0)]
    ∧ (State.reset.withDevice { State.reset.device with state := .inReset }).device.state = .inReset
    ∧ (State.reset.withDevice { State.reset.device with resetWaits := true }).device.resetWaits = true
    ∧ (∃ c : Control, c.requests = [req 0x32 (u16 0)] ∧ c.exec = between)
    ∧ (∃ c : Control, c.exec = .programming)
    ∧ (let s := storing (onPath running .egress 0 fun p => { p with pausing := true, resendAt := some 900 }) .egress 0 (List.replicate 2000 frame64)
       ((after .zeroizeInput s).path .egress 0).pausing = false
       ∧ ((after .zeroizeInput s).port .rack 0).pauseAsked = [.resume]) := by
  refine ⟨?_, ?_, ?_, ?_, ?_, rfl, rfl, ⟨{ Control.blank with requests := [req 0x32 (u16 0)], exec := between }, rfl, rfl⟩,
    ⟨{ Control.blank with exec := .programming }, rfl⟩, ?_⟩ <;> decide +kernel

/-- R51, R180: a zeroization during an install answers it BAD-STATE, and the ZEROIZED notice waits behind the reply. -/
theorem test_zeroize_ends_install : (after .zeroizeInput installing).control.sending = replyLine (req 0x34 []) [0x14, 0, 0]
    ∧ (after .zeroizeInput installing).control.notices = [.zeroized .input 1 (some 5) none] := by decide +kernel

theorem witness_SoftResetClears : (ask running (req 0x03 [])).asks (req 0x03 []) [] 0x03 := by decide +kernel

theorem witness_SetLinkModeChangesMode :
    (∀ b : Fin 5, (ask running (req 0x10 [BitVec.ofNat 8 b.val, 3])).asks (req 0x10 [BitVec.ofNat 8 b.val, 3]) [] 0x10)
    ∧ (∀ b : Fin 5, (ask running (req 0x10 [3, BitVec.ofNat 8 b.val])).asks (req 0x10 [3, BitVec.ofNat 8 b.val]) [] 0x10)
    ∧ ((after .setLinkMode (ask running (req 0x10 [3, 1]))).link 3).cover.nextAt = some 10000000
    ∧ (after .setLinkMode (ask running (req 0x10 [3, 1]))).control.sending = replyLine (req 0x10 []) [0, 0, 0, 3, 0, 1] := by
  decide +kernel

theorem witness_SetLinkParamsSetsThem : (ask running (req 0x11 clampBody)).asks (req 0x11 clampBody) [] 0x11 ∧ clampBody.length = 55
    ∧ (byteAt clampBody 0).toNat = 3 ∧ (∀ i ∈ linkMarkers, (byteAt clampBody i).toNat ≤ 1)
    ∧ (∃ i ∈ linkMarkers, 1 < (byteAt (clampBody.set 52 2) i).toNat) ∧ (clampBody.set 52 2).length = 55
    ∧ 3 < (byteAt (clampBody.set 0 4) 0).toNat
    ∧ (after .setLinkParams (ask running (req 0x11 clampBody))).path .egress 3 = (running.path .egress 3)
    ∧ (∀ i ∈ linkMarkers, byteAt ([3] ++ zeros 54) i = 0) ∧ (running.params 3).inRange
    ∧ ((after .setLinkParams (ask (onPath running .egress 3 fun p => { p with free := 1799 }) (req 0x11 clampBody))).port .rack 3).pauseAsked
      = [.stop] := by decide +kernel

/-- R144, R153: after a zeroization that left a buffer NORMAL below XOFF, reading the parameters changes nothing. -/
theorem test_params_read_asks_no_pause :
    let s := ask (onPath running .egress 3 fun p => { p with free := 48 }) (req 0x11 ([3] ++ zeros 54))
    (after .setLinkParams s).link 3 = s.link 3 := by decide +kernel

theorem witness_LinkReportsAndCounters : (ask running (req 0x12 (u8 3))).asks (req 0x12 (u8 3)) [] 0x12
    ∧ (ask running (req 0x13 (u8 3 ++ [2]))).asks (req 0x13 (u8 3 ++ [2])) [] 0x13
    ∧ (ask running (req 0x13 (u8 0 ++ yesNo true))).asks (req 0x13 (u8 0 ++ yesNo true)) [] 0x13 := by decide +kernel

/-- The rule of section 5.6.2 that is given as COUNT (4000, 200). -/
def ruleBody (form : Byte) (low second : Nat) : Bytes := u8 1 ++ [1, 4, 1, 0, 0, 1, form] ++ u16 low ++ u16 second

theorem witness_SetRangeRuleWritesARule : (ask running (req 0x20 (ruleBody 1 4000 200))).asks (req 0x20 (ruleBody 1 4000 200)) [] 0x20
    ∧ RuleField.ofCode (0 : Byte).toNat = some .vidCode ∧ Sense.ofCode (0 : Byte).toNat = some .inside
    ∧ RuleVerdict.ofCode (1 : Byte).toNat = some .discard
    ∧ (after .setRangeRule (ask running (req 0x20 (ruleBody 1 4000 200)))).rules[1]
      = { enabled := true, links := 4, dirs := 1, field := .vidCode, low := 4000, high := 4096, sense := .inside, verdict := .discard }
    ∧ (after .setRangeRule (ask running (req 0x20 (ruleBody 1 4000 200)))).control.sending = replyLine (req 0x20 []) [0, 1, 1, 0]
    ∧ (after .setRangeRule (ask running (req 0x20 (ruleBody 1 4097 1)))).control.sending = replyLine (req 0x20 []) [0, 0, 1, 0x12] := by
  decide +kernel

def flowKey1 : FlowKey := { link := 2, vid := 100, addr := some [0x02, 0x1A, 0, 0, 0x0B, 0x07] }
def flowEntry1 : FlowEntry := { key := flowKey1, verdict := .encrypt, assoc := some 1300, hits := 0 }

theorem witness_FlowTableFindsWhatIsAdded : FlowTable.blank.find flowEntry1.key = none
    ∧ (FlowTable.blank.add flowEntry1).find flowKey1 = some flowEntry1 := by decide +kernel

theorem witness_AddFlowAddsOrRefuses :
    (let q := req 0x21 (flowBody ++ [0] ++ u16 1300)
     (ask running q).asks q [] 0x21 ∧ q.body.length = 13 ∧ numAt q.body 0 1 = 2 ∧ byteAt q.body 3 = 0 ∧ Verdict.encrypt.code = byteAt q.body 10)
    ∧ (let q := req 0x21 (flowBody ++ [0] ++ u16 2048)
       (after .addFlow (ask running q)).control.sending = replyLine q [0x13, 0, 0])
    ∧ (let q := req 0x21 (flowBody ++ [3] ++ u16 1300)
       (after .addFlow (ask running q)).control.sending = replyLine q [0x12, 0, 0])
    ∧ (let q := req 0x21 (flowBody ++ [1] ++ u16 0)
       (after .addFlow (ask (running.withFlow (FlowTable.blank.add flowEntry1)) q)).control.sending = replyLine q [0x40, 0, 0]) := by
  decide +kernel

theorem witness_RemoveAndReadFlow :
    (let q := req 0x22 flowBody
     (ask running q).asks q [] 0x22 ∧ q.body.length = 10 ∧ numAt q.body 0 1 = 2 ∧ byteAt q.body 3 = 0
     ∧ (after .removeFlow (ask (running.withFlow (FlowTable.blank.add flowEntry1)) q)).control.sending
        = replyLine q ([0, 0, 0, 0] ++ u16 1300 ++ u32 0)
     ∧ (after .removeFlow (ask running q)).control.sending = replyLine q [0x43, 0, 0])
    ∧ (let q := req 0x23 (u16 1023)
       (ask running q).asks q [] 0x23
       ∧ (after .readFlow (ask running q)).control.sending = replyLine q ([0, 0, 1] ++ u16 1023 ++ [0, 0])) := by decide +kernel

theorem witness_ConditionsTestTheRecord : (live.meets 3 0 = true ∧ (running.record 3).meets 3 0 = false)
    ∧ (Record.blank 9).keysSound ∧ (Record.blank 9).cur = none := by decide +kernel

/-- Section 10.7.2: TEST-ASSOC of 2 items ends with DONE-COUNT 2 and no CLAMPED; section 2.11.4: RELEASE at the last index is cut. -/
theorem witness_RepeatsDoTheirItemsInOrder :
    (let q := { req 0x33 (u16 0) with repeatCount := 1 }
     let s := ask running q
     s.asksIf q [] 0x33 ∧ q.body.length = 2 ∧ repeatOf .testAssoc ≠ none
     ∧ (after .testAssoc s).control.exec = .items 1 1 1 Flags.none [0, 0, 0, 0]
     ∧ (after .testAssoc (after .testAssoc s)).control.sending = replyLine q [0, 0, 2, 0, 0, 0, 0, 0, 0, 0, 0])
    ∧ (let q := { req 0x37 (u16 2047) with repeatCount := 9 }
       (after .release (ask running q)).control.sending = replyLine q [0, 1, 1, 0x14])
    ∧ (let q := req 0x37 (u16 2048)
       (after .release (ask running q)).control.sending = replyLine q [0x13, 0, 0]) := by
  refine ⟨⟨by decide +kernel, by decide, by simp [repeatOf], by decide +kernel, by decide +kernel⟩, by decide +kernel, by decide +kernel⟩


/-! ### Witnesses: requests on the Store -/

/-- The request `q` at the head of a RUNNING device whose record 5 is `r`. -/
def asked (r : Record) (q : Request) : State := ask (running.setRecord 5 r) q

/-- A body of SET-ASSOC for record 5: auto-rollover on, everything else unchanged. -/
def setBody : Bytes := u16 5 ++ [0, 0, 1, 1] ++ zeros 17

theorem witness_SetAssocChangesParameters :
    (asked live (req 0x31 setBody)).asksIf (req 0x31 setBody) [] 0x31 ∧ setBody.length = 23 ∧ numAt setBody 0 2 = 5
    ∧ ((after .setAssoc (asked live (req 0x31 setBody))).record 5).params = { live.params with autoRollover := true }
    ∧ (asked { live with state := .draining } (req 0x31 setBody)).asksIf (req 0x31 setBody) [] 0x31
    ∧ (asked live { req 0x31 setBody with cond := 1 }).asksIf { req 0x31 setBody with cond := 1 } [] 0x31
    ∧ live.meets 1 0 = false := by decide +kernel

/-- A body of OPEN-ASSOC for record 5. -/
def openBody5 (dir : Byte) (channel : Nat) : Bytes := u16 5 ++ [dir, 1] ++ u16 channel ++ zeros 21

/-- A purge of the first eight slots of bank 0. -/
def purge0 (active : Bool) (cursor : Nat) (visiting : Bool) : Purge :=
  { bank := 0, first := 0, last := 7, skipPinned := false, barred := false, active := active, cursor := cursor, purged := 0,
    skipped := 0, visiting := visiting }

/-- A state with a purge and perhaps a pending stop. -/
def purging (s : State) (p : Purge) (stop : Stop) : State := s.withBank { s.bank with purge := some p, stop := stop }

theorem witness_OpenAssocOpensARecord :
    (let q := req 0x30 (openBody5 0 900)
     (asked (Record.blank 3) q).asksIf q [] 0x30 ∧ q.body.length = 27 ∧ numAt q.body 0 2 = 5 ∧ dirCode .egress = byteAt q.body 2
     ∧ (purging (asked (Record.blank 3) q) (purge0 false 5 false) .none).asksIf q [] 0x30
     ∧ (purging (asked (Record.blank 3) q) (purge0 false 5 false) .none).bank.inPurge 5 = true
     ∧ ((after .openAssoc (asked (Record.blank 3) q)).record 5).state = .opened
     ∧ (asked live q).asksIf q [] 0x30 ∧ (asked live { q with cond := 1 }).asksIf { q with cond := 1 } [] 0x30)
    ∧ (let q := req 0x30 (openBody5 1 900)
       (asked (Record.blank 3) q).asksIf q [] 0x30 ∧ numAt q.body 2 1 = 1 ∧ numAt q.body 4 2 ≠ 5)
    ∧ (let q := req 0x30 (u16 2048 ++ zeros 25)
       (asked live q).asksIf q [] 0x30 ∧ q.body.length = 27 ∧ 2047 < numAt q.body 0 2) := by decide +kernel

theorem witness_RecordsAreReadAndTested :
    (asked live (req 0x32 (u16 5))).asks (req 0x32 (u16 5)) [] 0x32
    ∧ (asked live { req 0x33 (u16 5) with cond := 5 }).asksIf { req 0x33 (u16 5) with cond := 5 } [] 0x33
    ∧ (asked live (req 0x33 (u16 5))).asksIf (req 0x33 (u16 5)) [] 0x33 := by decide +kernel

/-- Two frames HELD for record 5 with a WAITING one between them. -/
def heldPair : List Entry :=
  [entry (.held 10 500) (some 5) none none, entry .waiting (some 9) (some 0) (some 4), entry (.held 10 500) (some 5) none none]

theorem witness_HeldEntriesAreReleasedInOrder : curKey.state = .inUse ∧ 1 ≤ curKey.n
    ∧ curKey.n + (heldPair.filter (Entry.isHeldOf 5)).length ≤ 0xFFFFFFFF
    ∧ (releaseHeld 5 live heldPair curKey).1.map Entry.pn = [some 1, some 4, some 2] := by decide +kernel

/-- A LIVE egress record with a staged key. -/
def staged : Record := { live with nxt := some nxtKey }

theorem witness_RolloverRequestRollsOver :
    (let q := req 0x35 (u16 5)
     (asked staged q).asksIf q [] 0x35 ∧ q.body.length = 2 ∧ staged.old = none ∧ nxtKey.state = .ready
     ∧ ((after .rollover (asked staged q)).record 5).generation = 42
     ∧ (asked { staged with old := some { curKey with phase := 3, state := .retiring, inFlight := 1 } } q).asksIf q [] 0x35
     ∧ (asked live q).asksIf q [] 0x35 ∧ (asked staged { q with cond := 6 }).asksIf { q with cond := 6 } [] 0x35
     ∧ staged.meets 6 0 = false)
    ∧ (asked staged (req 0x35 (u16 2048))).asksIf (req 0x35 (u16 2048)) [] 0x35 := by decide +kernel

theorem witness_RetireAndRelease :
    (let q := req 0x36 (u16 5)
     (asked live q).asksIf q [] 0x36 ∧ ((after .retire (asked live q)).record 5) = Record.blank 41
     ∧ (asked { live with cur := some { curKey with inFlight := 1 } } q).asksIf q [] 0x36
     ∧ live.state = .live ∧ live.old = none ∧ ((asked live q).link 0).rack.up = true
     ∧ ((after .retire (queued (asked live q) .egress 0 heldPair)).path .egress 0).queue.map (fun e => (e.state, e.cells))
       = [(.waiting, 1), (.dropped .retired, 0)]
     ∧ ((after .retire (queued (asked live q) .egress 0 heldPair)).path .egress 0).counters.discard .retired = 2
     ∧ ((after .retire (queued (asked live q) .egress 0 heldPair)).path .egress 0).free = 2047
     ∧ (asked { live with state := .draining } q).asksIf q [] 0x36
     ∧ (asked live { q with cond := 1 }).asksIf { q with cond := 1 } [] 0x36)
    ∧ (let q := req 0x37 (u16 5)
       (asked { Record.blank 8 with state := .barred } q).asks q [] 0x37 ∧ (asked live q).asks q [] 0x37) := by decide +kernel

/-- An OPENED record without a key. -/
def opened : Record := { Record.blank 3 with state := .opened }

theorem witness_InstallKeyIsTakenOrRefused :
    (let q := req 0x34 (installBody 0)
     (asked opened q).asksIf q [] 0x34 ∧ q.body.length = 46 ∧ byteAt q.body 4 = 1
     ∧ q.body = u16 5 ++ yesNo false ++ u8 1 ++ yesNo true ++ [0] ++ (List.replicate 32 9 ++ List.replicate 8 3)
     ∧ opened.meets q.cond q.carg = true ∧ (asked opened q).bank.purge = none ∧ (asked opened q).bank.install = none
     ∧ (asked opened q).device.wrapOnly = false ∧ (asked opened q).prov.locked = false
     ∧ (asked live q).asksIf q [] 0x34 ∧ (asked opened { q with cond := 1 }).asksIf { q with cond := 1 } [] 0x34)
    ∧ (asked live (req 0x34 (installBody 1))).asksIf (req 0x34 (installBody 1)) [] 0x34
    ∧ (asked live (req 0x34 (u16 5 ++ [1, 2, 0, 0] ++ zeros 48))).asksIf (req 0x34 (u16 5 ++ [1, 2, 0, 0] ++ zeros 48)) [] 0x34
    ∧ (asked live (req 0x34 (u16 2048 ++ [1, 2, 0, 0] ++ zeros 48))).asksIf (req 0x34 (u16 2048 ++ [1, 2, 0, 0] ++ zeros 48)) [] 0x34
    ∧ (asked live (req 0x34 [])).asksIf (req 0x34 []) [] 0x34 := by
  refine ⟨⟨?_, ?_, ?_, ?_, ?_⟩, ?_, ?_, ?_, ?_⟩ <;> decide +kernel

/-- The wrapped install of section 3.4.3, whose secret a KWK of zeros does not open. -/
def unwrapping : State :=
  (expanding.withBank { expanding.bank with
    install := some { index := 5, toNxt := false, phase := 1, stage := .unwrapping (zeros 8) (zeros 40) } }).withProv
    { expanding.prov with kwk := some (zeros 32, [0, 0, 0]) }

/-- The secret that opens: key of nines and salt of threes, sealed under the KWK of zeros for record 5 and phase 1. -/
def sealedSecret : Bytes × Bytes :=
  let secret := List.replicate 32 (9 : Byte) ++ List.replicate 8 3
  let integrity := integrityOf (zeros 32) secret 5 1
  (integrity, unwrapCandidate (zeros 32) integrity secret)

theorem witness_UnwrapPassesOrFails :
    (∀ i integrity sealed, expanding.bank.install = some i → i.stage ≠ .unwrapping integrity sealed)
    ∧ (∃ i, unwrapping.bank.install = some i ∧ i.stage = .unwrapping (zeros 8) (zeros 40))
    ∧ unwrapping.prov.kwk = some (zeros 32, [0, 0, 0]) ∧ unwrapping.control.requests = [req 0x34 (installBody 0)]
    ∧ unwrap (zeros 32) (zeros 8) (zeros 40) 5 1 = none
    ∧ unwrap (zeros 32) sealedSecret.1 sealedSecret.2 5 1 = some (List.replicate 32 9, List.replicate 8 3) := by
  refine ⟨?_, ⟨_, rfl, rfl⟩, rfl, rfl, by decide +kernel, by decide +kernel⟩
  intro i a b h; cases h; simp

/-- A LIVE ingress record whose next key is loading, and an install that fills it. -/
def expandingNxt (r : Record) (queue : List Entry) : State :=
  (queued ((running.setRecord 5 { r with nxt := some (loadingKey 2) }).withBank { running.bank with
    install := some { index := 5, toNxt := true, phase := 2, stage := .expanding (zeros 32) (zeros 8) } }) .ingress 0 queue).withControl
    { Control.blank with exec := .installing, requests := [req 0x34 (installBody 1)] }

/-- Envelopes held for record 5: of the phase being installed, of another phase, and with packet number 0. -/
def heldIn : List Entry :=
  [{ entry (.held 10 500) (some 5) none (some 7) with phase := 2 }, { entry (.held 10 500) (some 5) none (some 8) with phase := 3 },
   { entry (.held 10 500) (some 5) none (some 0) with phase := 2 }]

theorem witness_InstallsComplete :
    (∃ i, expanding.bank.install = some i ∧ i.stage = .expanding (List.replicate 32 9) (List.replicate 8 3) ∧ i.toNxt = false)
    ∧ expanding.control.requests = [req 0x34 (installBody 0)]
    ∧ (∃ i, (expandingNxt liveIn heldIn).bank.install = some i ∧ i.stage = .expanding (zeros 32) (zeros 8) ∧ i.toNxt = true)
    ∧ ((expandingNxt liveIn heldIn).record 5).dir = .ingress ∧ ((expandingNxt liveIn heldIn).record 5).wanted = false
    ∧ ((after .installComplete (expandingNxt liveIn heldIn)).path .ingress 0).queue.map Entry.state
      = [.waiting, .dropped .unknownPhase, .dropped .badPn]
    ∧ ((expandingNxt live []).record 5).dir = .egress ∧ ((expandingNxt live []).record 5).wanted = false
    ∧ ((expandingNxt { live with wanted := true } []).record 5).wanted = true
    ∧ ((after .installComplete (expandingNxt { live with wanted := true } [])).record 5).generation = 42
    ∧ (let k := { curKey with phase := 3, state := .retiring, inFlight := 1 }
       ((expandingNxt { live with wanted := true, old := some k } []).record 5).old = some k
       ∧ ((after .installComplete (expandingNxt { live with wanted := true, old := some k } [])).record 5).nxt.map Key.state = some .ready)
    ∧ liveIn.cur.map Key.phase = some 1 ∧ liveIn.old = none
    ∧ ((after .installComplete (expandingNxt liveIn heldIn)).record 5).nxt.map (fun k => (k.state, k.inFlight)) = some (.ready, 1)
    ∧ ((expandingNxt { liveIn with wanted := true } heldIn).record 5).wanted = true
    ∧ ((after .installComplete (expandingNxt { liveIn with wanted := true } heldIn)).record 5).cur.map (fun k => (k.state, k.inFlight))
      = some (.inUse, 1)
    ∧ ((after .installComplete (expandingNxt { liveIn with wanted := true } heldIn)).record 5).old.map Key.state = some .grace := by
  refine ⟨⟨_, rfl, ⟨rfl, rfl⟩⟩, rfl, ⟨_, rfl, ⟨rfl, rfl⟩⟩, ?_⟩
  decide +kernel

theorem witness_PurgeStarts :
    (let q := req 0x40 ([0] ++ u16 510 ++ u16 8 ++ [0, 1])
     (ask running q).asks q [] 0x40 ∧ q.body.length = 7 ∧ (ask running q).bank.purge = none
     ∧ (after .purge (ask running q)).control.sending = replyLine q [1, 1, 0]
     ∧ (purging (ask running q) (purge0 true 0 false) .none).asks q [] 0x40)
    ∧ (ask running (req 0x40 ([4] ++ zeros 6))).asks (req 0x40 ([4] ++ zeros 6)) [] 0x40 := by decide +kernel

theorem witness_PurgeControlRequests :
    (∀ v : Fin 2, (purging (ask running (req 0x41 [])) (purge0 true 3 (v == 1)) .none).asks (req 0x41 []) [] 0x41)
    ∧ (purging (ask running (req 0x41 [])) (purge0 false 3 false) .none).asks (req 0x41 []) [] 0x41
    ∧ (purging (ask running (req 0x42 [])) (purge0 false 3 false) .none).asks (req 0x42 []) [] 0x42
    ∧ (purging (ask running (req 0x42 [])) (purge0 true 3 false) .none).asks (req 0x42 []) [] 0x42
    ∧ (∀ v : Fin 2, (purging (ask running (req 0x43 [])) (purge0 true 3 (v == 1)) .none).asks (req 0x43 []) [] 0x43)
    ∧ (ask running (req 0x43 [])).asks (req 0x43 []) [] 0x43 ∧ (ask running (req 0x43 [])).bank.purge = none := by decide +kernel

theorem witness_PurgeVisitsARecord :
    (let s := purging (running.setRecord 5 live) (purge0 true 5 false) .none
     s.record (bankSlot 0 5) = live ∧ s.record (bankSlot 0 4) = Record.blank 0 ∧ (s.link 0).rack.up = true
     ∧ ((after .purgeVisit s).record 5) = Record.blank 41)
    ∧ (let s := purging (running.setRecord 5 { live with cur := some { curKey with inFlight := 2 } }) (purge0 true 5 false) .none
       ((after .purgeVisit s).record 5).state = .purging)
    ∧ (let s := purging running (purge0 true 7 false) .none
       (after .purgeVisit s).bank.lastPurge = .done)
    ∧ (let s := purging (queued (running.setRecord 5 live) .egress 0 heldPair) (purge0 true 5 false) .none
       s.record (bankSlot 0 5) = live ∧ live.state ≠ .empty ∧ live.state ≠ .barred ∧ live.params.pinned = false ∧ live.old = none
       ∧ ((after .purgeVisit s).path .egress 0).queue.map (fun e => (e.state, e.cells)) = [(.waiting, 1), (.dropped .purged, 0)]
       ∧ ((after .purgeVisit s).path .egress 0).counters.discard .purged = 2
       ∧ (after .purgeVisit s).bank.purge = some { purge0 true 6 false with purged := 1 })
    ∧ (purging running (purge0 false 5 false) .none).bank.purge = some (purge0 false 5 false) := by decide +kernel

/-- A purged record whose last entry has gone. -/
def purgedRecord : Record := { live with state := .purging }

theorem witness_PurgedRecordIsFinished :
    (∀ c : Fin 8, ∀ stop ∈ [Stop.none, .suspend, .cancel],
      let s := purging (ask (running.setRecord (bankSlot 0 c.val) purgedRecord) (req 0x41 [])) (purge0 true c.val true) stop
      s.record (bankSlot 0 c.val) = purgedRecord ∧ (s.link purgedRecord.link).rack.up = true ∧ s.control.requests = [req 0x41 []])
    ∧ slotInFlight purgedRecord.cur + slotInFlight purgedRecord.nxt + slotInFlight purgedRecord.old = 0 := by decide +kernel

theorem witness_StoreStatusReports : (ask running (req 0x44 [])).asks (req 0x44 []) [] 0x44 ∧ running.bank.purge = none
    ∧ running.bank.install = none ∧ expanding.bank.stateOf 0 = .installing
    ∧ (purging running (purge0 false 3 false) .none).bank.purge = some (purge0 false 3 false) := by decide +kernel

/-! ### Witnesses: provisioning, resets and start-up -/

/-- The provisioning area with a field being written, and the request that asked for it. -/
def programming (f : Programming) : State :=
  (ask running (req 0x50 (zeros 66))).withProv { running.prov with kwk := some (zeros 32, [1, 2, 3]), programming := some f }

theorem witness_ProvisioningIsWrittenOnce :
    (let q := req 0x50 ([0, 32] ++ zeros 64)
     (ask running q).asks q [] 0x50 ∧ q.body.length = 66 ∧ (after .provisionWrite (ask running q)).prov.programming = some (.kwk (zeros 32)))
    ∧ (let q := req 0x50 ([1, 64] ++ zeros 64)
       (ask running q).asks q [] 0x50 ∧ (after .provisionWrite (ask running q)).prov.programming = some (.label (zeros 64)))
    ∧ (let q := req 0x50 ([1, 65] ++ zeros 64); (ask running q).asks q [] 0x50)
    ∧ (let q := req 0x51 [1, 2, 3]
       (ask running q).asks q [] 0x51 ∧ running.prov.locked = false ∧ running.prov.kwk = none
       ∧ (after .provisionLock ((ask running q).withProv { running.prov with kwk := some (zeros 32, [1, 2, 3]) })).prov.programming
         = some .lock)
    ∧ (programming .lock).prov.programming = some .lock ∧ (programming .lock).control.requests = [req 0x50 (zeros 66)]
    ∧ (after .programmingComplete (programming .lock)).prov.locked = true
    ∧ (programming .lock).device.resetWaits = false
    ∧ ((programming .lock).withDevice { running.device with resetWaits := true }).device.resetWaits = true
    ∧ (running.withProv { running.prov with locked := true }).prov.programming = none ∧ ∃ t, exec .laneGrant running = .next t := by
  iterate 9 rw [← and_assoc]
  exact ⟨by decide +kernel, _, rfl⟩

theorem witness_ResetsAndStartUp : running.prov.programming = none ∧ (programming .lock).prov.programming ≠ none
    ∧ running.device.state ≠ .inReset ∧ (after .hardReset running).device.state = .inReset
    ∧ (∃ t, exec .laneGrant (running.withDevice { running.device with state := .failed }) = .next t)
    ∧ running.device.resetWaits = false :=
  ⟨by decide +kernel, by decide +kernel, by decide +kernel, by decide +kernel, ⟨_, rfl⟩, by decide +kernel⟩

theorem witness_SelfTestEndsStartUp : running.device.state ≠ .starting ∧ State.reset.device.state = .starting
    ∧ (after (.selfTestComplete 0x81 true) State.reset).device.state = .running
    ∧ (after (.selfTestComplete 0 true) State.reset).device.state = .failed
    ∧ ((after (.selfTestComplete 0x81 true) State.reset).lane 7, (after (.selfTestComplete 0x81 true) State.reset).lane 6) = (.idle, .failed) := by
  decide +kernel

/-! ### Witnesses: ports and buffers -/

theorem witness_PortsFollowTheirSignals : running.device.state = .running ∧ (running.port .campus 2).up = true
    ∧ ((onPort running .campus 2 fun p => { p with up := false }).port .campus 2).up = false
    ∧ (running.path (fedDir .campus) 2).pausing = false
    ∧ ((onPath running (fedDir .campus) 2 fun p => { p with pausing := true }).path (fedDir .campus) 2).pausing = true
    ∧ ((queued running .egress 2 [entry .done (some 5) none none, entry .waiting (some 5) none none]).path .egress 2).queue
      = [entry .done (some 5) none none, entry .waiting (some 5) none none]
    ∧ ((after (.linkSignalLost .campus 2 true)
        (queued running .egress 2 [entry .done (some 5) none none, entry .waiting (some 5) none none])).path .egress 2).queue
      = [entry .waiting (some 5) none none] := by decide +kernel

theorem witness_BuffersTestTheirThresholds : (running.path .egress 0).free = 2048 ∧ (0 < 1537 ∧ 1537 ≤ 2048)
    ∧ ((running.takeCells .egress 0 1536).path .egress 0).pausing = false
    ∧ ((running.takeCells .egress 0 1537).path .egress 0).pausing = true
    ∧ (((running.takeCells .egress 0 1537).freeCells .egress 0 256).path .egress 0).pausing = true
    ∧ (((running.takeCells .egress 0 1537).freeCells .egress 0 257).path .egress 0).pausing = false := by decide +kernel

/-- A MAC control frame with a true FCS. -/
def controlFrame (op time : Nat) : Bytes := withFcs (zeros 12 ++ u16 0x8808 ++ u16 op ++ u16 time ++ zeros 42)

theorem witness_ArrivalStoresOrDrops : (running.port .rack 0).up = true ∧ (State.reset.port .rack 0).up = false ∧ frame64.length = 64
    ∧ fcsMatches frame64 = true ∧ numAt frame64 12 2 ≠ 0x8808 ∧ fcsMatches (zeros 64) = false ∧ (zeros 63).length < 64
    ∧ 9216 < (zeros 9217).length
    ∧ fcsMatches (controlFrame 1 9) = true ∧ numAt (controlFrame 1 9) 12 2 = 0x8808 ∧ numAt (controlFrame 1 9) 14 2 = 1
    ∧ numAt (controlFrame 1 9) 16 2 = 9 ∧ numAt (controlFrame 1 0) 16 2 = 0 ∧ fcsMatches (controlFrame 1 0) = true
    ∧ fcsMatches (controlFrame 2 0) = true ∧ numAt (controlFrame 2 0) 14 2 ≠ 1
    ∧ ((onPath running .egress 0 fun p => { p with free := 0 }).path .egress 0).free < (frame64.length + 127) / 128
    ∧ ((after (.frameArrival .rack 0 frame64) running).path .egress 0).stored = [frame64]
    ∧ ((after (.frameArrival .campus 1 (controlFrame 1 9)) running).port .campus 1).pausedUntil = some 4608 := by decide +kernel

theorem witness_PauseFramesAndDeadlines :
    (let s := onPort running .campus 2 fun p => { p with pauseAsked := [.stop, .resume] }
     (s.port .campus 2).up = true ∧ (s.port .campus 2).sending = false ∧ (s.port .campus 2).pauseAsked = [.stop, .resume]
     ∧ ((after (.pauseFrameSend .campus 2) s).port .campus 2).lineOut.length = 64)
    ∧ (running.port .campus 2).pauseAsked = [] ∧ (running.path .egress 0).resendAt = none
    ∧ ((onPath running .egress 0 fun p => { p with pausing := true, resendAt := some 900 }).path .egress 0).resendAt = some 900
    ∧ (running.port .rack 1).pausedUntil = none
    ∧ ((onPort running .rack 1 fun p => { p with pausedUntil := some 77 }).port .rack 1).pausedUntil = some 77 := by decide +kernel

theorem witness_HeadsAreTransmitted :
    (let s := queued running .egress 1 [entry .done (some 5) none none]
     (s.path .egress 1).queue = [entry .done (some 5) none none] ∧ (s.port (sendSide .egress) 1).up = true
     ∧ (s.port (sendSide .egress) 1).pausedUntil = none ∧ (s.port (sendSide .egress) 1).sending = false
     ∧ (s.port (sendSide .egress) 1).pauseAsked = []
     ∧ (after (.frameTransmitStart .egress 1) s).port .campus 1 = { s.port .campus 1 with sending := true, lineOut := withFcs frame64 }
     ∧ ((after (.frameTransmitEnd .egress 1) (after (.frameTransmitStart .egress 1) s)).record 5).frames = 1)
    ∧ (running.path .egress 1).queue = [] ∧ (entry .waiting (some 5) none none).state ≠ .done
    ∧ ((onPort running .campus 1 fun p => { p with sending := true }).port .campus 1).sending = true := by decide +kernel
/-! ### Witnesses: the egress path -/

theorem witness_EnvelopePadding : 64 ≤ 67 ∧ 2 ≤ 256 ∧ 67 + 2 + 2 + 26 ≤ 1518 ∧ (67 - 16 + 2) % 2 = 1 % 2
    ∧ (envelopeOf 67 false 2 1518).map (fun v => v.1.z) = some 1 := by decide +kernel

/-- A frame stored on the egress side of link 0 in a mode, with one range rule. -/
def classifying (m : Mode) (v : RuleVerdict) (low : Nat) : State :=
  onLink ((storing running .egress 0 [frame64]).withRules (Vector.replicate 32 RangeRule.blank |>.set 3
    { enabled := true, links := 1, dirs := 3, field := .etherType, low := low, high := 0xFFFF, sense := .inside, verdict := v })) 0
    fun l => { l with mode := m }

/-- The flow entry of `frame64`, bound to record 5. -/
def flow64 : FlowEntry := { key := { link := 0, vid := 4096, addr := some (frame64.take 6) }, verdict := .encrypt, assoc := some 5, hits := 0 }

theorem witness_EgressClassificationDecides :
    (running.path .egress 0).stored = [] ∧ ((classifying .halt .discard 0).path .egress 0).stored = [frame64]
    ∧ ((classifying .halt .discard 0).link 0).mode = .halt ∧ ((classifying .cover .discard 0).link 0).mode = .cover
    ∧ (∀ j : Fin 32, (classifying .protect .bypass 0x0800).rules[j].matches frame64 = decide (j = 3))
    ∧ (∀ j : Fin 32, (classifying .protect .bypass 0x0800).rules[j].applies .egress 0 = decide (j = 3))
    ∧ (∀ j : Fin 32, (classifying .protect .bypass 0x0801).rules[j].matches frame64 = false)
    ∧ ((FlowTable.blank.add flow64).find flow64.key = some flow64)
    ∧ ((after (.egressClassification 0) (classifying .selective .bypass 0x0800)).path .egress 0).queue = [bypassEntry frame64]
    ∧ (((after (.egressClassification 0)
        (((classifying .protect .bypass 0x0801).setRecord 5 live).withFlow (FlowTable.blank.add flow64))).path .egress 0).queue.map
          fun e => (e.pn, e.key, e.cells, e.env.charge)) = [(some 1, some 1, 1, 7)] := by decide +kernel

/-- An entry about to be given a packet number. -/
def fresh (charge : Nat) : Entry := { entry .waiting (some 5) none none with env := { envValues false 48 0 false 48 with charge := charge } }

theorem witness_KeyUsageDecides :
    (let s := running.setRecord 5 live
     (s.path .egress 0).queue.any (Entry.isHeldOf 5) = false ∧ live.state ≠ .exhausted ∧ curKey.state = .inUse
     ∧ curKey.u + (fresh 7).env.charge ≤ 2 ^ live.params.capExp ∧ curKey.crossed = false ∧ curKey.n < live.params.softPn
     ∧ ((s.keyUse 0 5 (fresh 7)).1.path .egress 0).queue.map Entry.pn = [some 1])
    ∧ (let s := running.setRecord 5 { live with cur := some { curKey with n := 0xFFFFFFFF, u := 9 } }
       (s.keyUse 0 5 (fresh 7)).2 = none ∧ live.params.softPn ≤ 0xFFFFFFFF
       ∧ ((s.keyUse 0 5 (fresh 7)).1.record 5).cur.map (fun k => (k.state, k.n, k.soft)) = some (.spent, 0, true))
    ∧ (let s := running.setRecord 5 { live with cur := some { curKey with state := .spent, n := 0 } }
       (s.keyUse 0 5 (fresh 7)).2 = some .exhausted ∧ ((s.keyUse 0 5 (fresh 7)).1.record 5).state = .exhausted)
    ∧ (let s := running.setRecord 5 { staged with cur := some { curKey with state := .spent, n := 0 } }
       (s.keyUse 0 5 (fresh 7)).2 = none ∧ ((s.keyUse 0 5 (fresh 7)).1.record 5).generation = 42)
    ∧ (let s := running.setRecord 5 { live with cur := some { curKey with state := .spent, n := 0 }, nxt := some (loadingKey 2) }
       ((s.keyUse 0 5 (fresh 7)).1.path .egress 0).queue.map Entry.state = [.held 0 50000000])
    ∧ ((queued running .egress 0 heldPair).path .egress 0).queue.any (Entry.isHeldOf 5) = true := by decide +kernel

theorem witness_DispatchTakesCellsAndAKey : envelopeOf 64 false 0 9600 = some (envValues false 48 0 false 48, false)
    ∧ envelopeOf 1590 false 0 1600 = none
    ∧ (16 ∣ 64 ∧ (48 : Nat) + 2 ≤ 64 ∧ ∀ t : Fin 64, 16 ∣ t.val → t.val < 48 + 2)
    ∧ (envelopeOf 64 false 16 1518).map (fun v => (v.1.z, v.1.ctLen, v.1.envLen, v.1.charge)) = some (14, 64, 106, 8)
    ∧ ((onPath running .egress 0 fun p => { p with free := 0 }).path .egress 0).free < (90 + 127) / 128 - 0
    ∧ ((90 + 127) / 128 - 0 ≤ (running.path .egress 0).free) := by decide +kernel

/-- A running cover timer of link 0 with a cover association. -/
def covering (assoc : Option AssocId) : State :=
  onLink (running.setRecord 5 live) 0 fun l =>
    { l with cover := { nextAt := some 700, stalled := false, skipped := 0 }, params := { l.params with coverAssoc := assoc } }

theorem witness_CoverTimerMakesCoverEntries : (running.link 0).cover.nextAt = none ∧ ((covering none).link 0).cover.nextAt = some 700
    ∧ ((covering (some 5)).params 0).coverAssoc = some 5 ∧ bindEgress ((covering (some 5)).record 5) 0 = none
    ∧ bindEgress ((covering (some 6)).record 6) 0 = some .noKey
    ∧ ((queued (covering none) .egress 0 (List.replicate 128 (entry .waiting none none none))).path .egress 0).queue.length = 128
    ∧ ((after (.coverTimerExpiry 0) (covering (some 5))).path .egress 0).queue.map (fun e => (e.kind, e.pn)) = [(.cover, some 1)]
    ∧ ((after (.coverTimerExpiry 0) (covering none)).link 0).cover = { nextAt := some 10000700, stalled := true, skipped := 0 } := by
  decide +kernel

/-! ### Witnesses: the ingress path -/

/-- An envelope of channel 5 stored on the ingress side of link 0. -/
def envelopeOf5 (p : Phase) (pn : Nat) : Bytes := zeros 12 ++ u16 0xB7A1 ++ [flagsByte p false, 0] ++ u16 5 ++ u32 pn ++ zeros 70

/-- It waits for classification, record 5 being `r`. -/
def arriving (m : Mode) (r : Record) (f : Bytes) : State :=
  onLink (storing (running.setRecord 5 r) .ingress 0 [f]) 0 fun l => { l with mode := m }

/-- The record of channel 5. -/
def in5 : Record := { liveIn with channel := 5 }

theorem witness_IngressClassificationDecides :
    ((arriving .halt in5 (envelopeOf5 1 9)).link 0).mode = .halt ∧ (running.path .ingress 0).stored = []
    ∧ (let f := envelopeOf5 1 9
       60 + 0 ≤ f.length ∧ (byteAt f 14).toNat / 16 = 1 ∧ numAt f 16 2 = 5 ∧ (byteAt f 14).toNat / 4 % 4 = 1 ∧ numAt f 18 4 = 9
       ∧ numAt f 12 2 = ((arriving .protect in5 f).params 0).envType ∧ ((arriving .protect in5 f).link 0).mode ≠ .halt
       ∧ ((after (.ingressClassification 0) (arriving .protect in5 f)).path .ingress 0).queue.map (fun e => (e.state, e.key, e.pn))
         = [(.waiting, some 1, some 9)])
    ∧ in5.dir = .ingress ∧ in5.link = 0 ∧ in5.state = .live ∧ in5.keyOf 1 = in5.cur ∧ in5.keyOf 2 = none
    ∧ (curKey.window.test 9 = none ∧ curKey.window.test 0 = some .badPn)
    ∧ ((after (.ingressClassification 0) (arriving .protect { in5 with nxt := some (loadingKey 2) } (envelopeOf5 2 9))).path
        .ingress 0).queue.map Entry.state = [.held 0 50000000]
    ∧ (¬(60 ≤ (envelope64 1 9).length + 0 ∧ numAt (zeros 12 ++ u16 0xB7A1 ++ zeros 60) 14 1 / 16 = 1))
    ∧ (arriving .protect in5 frame64).ruleVerdict .ingress 0 frame64 = none
    ∧ numAt frame64 12 2 ≠ ((arriving .selective in5 frame64).params 0).envType
    ∧ ((onLink (classifying .selective .bypass 0) 0 id).ruleVerdict .ingress 0 frame64) = some .bypass
    ∧ ((onLink (classifying .selective .discard 0) 0 id).ruleVerdict .ingress 0 frame64) = some .discard := by decide +kernel

theorem witness_WindowTestRefusesInOrder :
    (let w : Window := { size := 4, high := 9, marked := [9, 7] }
     w.test 5 = some .late ∧ w.size < w.high ∧ 5 ≤ w.high - w.size ∧ w.test 6 = none ∧ w.test 7 = some .duplicate ∧ w.test 0 = some .badPn
     ∧ (w.accept 12).high = 12)
    ∧ (let w : Window := { size := 4, high := 4, marked := [4] }; w.test 1 = none ∧ w.high ≤ w.size)
    ∧ (Window.empty 0).passes [2, 1, 4, 4] = [2, 4] := by decide +kernel

/-- Lane 2 is the lowest IDLE one; the last grant went to requester 1; requester 5 (ingress 1) offers first after it. -/
def granting : State :=
  ((((queued (queued (running.setRecord 5 in5) .ingress 1
      [entry .done (some 5) (some 1) (some 6), entry .waiting (some 5) (some 1) (some 7)]) .egress 1
      [entry .waiting (some 6) (some 1) (some 1)]).setLane 0 .failed).setLane 1 .failed).withLastGrant 1)

theorem witness_LanesTakeAndCompleteEntries :
    granting.lane 2 = .idle ∧ (∀ l' < (2 : Fin 8), granting.lane l' ≠ .idle) ∧ (5 : Fin 8) = granting.lastGrant + 1 + 3
    ∧ requesterQueue 5 = (.ingress, 1)
    ∧ (∀ j' < (3 : Fin 8), ∀ e' ∈ (granting.path (requesterQueue (granting.lastGrant + 1 + j')).1
        (requesterQueue (granting.lastGrant + 1 + j')).2).queue, e'.state ≠ .waiting)
    ∧ ((after .laneGrant granting).path .ingress 1).queue.map Entry.state = [.done, .inLane 2] ∧ (after .laneGrant granting).lastGrant = 5
    ∧ (let s := (queued ((running.setRecord 5 { live with cur := some { curKey with inFlight := 1 } }).setLane 2
          (.busy .egress 0 { material := zeros 32, hashKey := zeros 16, salt := zeros 8, phase := 1, channel := 5, envType := 0xB7A1 }))
          .egress 0 [entry (.inLane 2) (some 5) (some 1) (some 7)])
       ((after (.laneComplete 2) s).path .egress 0).queue.map (fun e => (e.state, e.data.length)) = [(.done, 86)]
       ∧ (after (.laneComplete 2) s).record 5 = live ∧ (after (.laneComplete 2) s).lane 2 = .idle)
    ∧ (let f : Fetched := { material := zeros 32, hashKey := zeros 16, salt := zeros 8, phase := 1, channel := 5, envType := 0xB7A1 }
       openEnvelope { entry (.inLane 2) (some 5) (some 1) (some 7) with data := envelopeOf5 1 7 } f = none
       ∧ (let e := entry (.inLane 2) (some 5) (some 1) (some 7)
          f.material.length = 32 ∧ (e.data.take 12).length = 12 ∧ e.env.ctLen = (e.data.length - 16)
          ∧ (openEnvelope { e with data := buildEnvelope e f ++ zeros 4 } f).map List.length = some 70)) := by decide +kernel

/-- A VERIFIED head whose plaintext is a frame of EtherType 0x0800 with 46 further bytes. -/
def verifiedHead (x : List Byte) : Entry :=
  { entry .verified (some 5) (some 1) (some 7) with verdict := .opening, data := zeros 22 ++ x }

/-- That head on link 0. -/
def releasing (r : Record) (x : List Byte) : State := queued (running.setRecord 5 r) .ingress 0 [verifiedHead x]

/-- The same record when the key of phase 1 is the staged one. -/
def nextIn5 : Record :=
  { in5 with cur := some { curKey with phase := 3 }, nxt := some { nxtKey with phase := 1, window := Window.empty 4 } }

theorem witness_HeadReleaseOpensAFrame :
    (running.path .ingress 0).queue.head? = none
    ∧ ((releasing in5 ([8, 0] ++ zeros 46)).path .ingress 0).queue = [verifiedHead ([8, 0] ++ zeros 46)]
    ∧ in5.keyOf 1 = some { curKey with window := Window.empty 4 } ∧ (Window.empty 4).test 7 = none
    ∧ (Window.mk 4 9 [7]).test 7 = some .duplicate
    ∧ (restoreFrame false false (zeros 22 ++ [8, 0] ++ zeros 46)).map Prod.snd = some 0x0800
    ∧ (restoreFrame false false (zeros 22 ++ u16 0xB7A2 ++ zeros 46)).map Prod.snd = some 0xB7A2
    ∧ restoreFrame false false (zeros 22 ++ zeros 9) = none
    ∧ (let v := envValues false 48 14 true 64
       (frame64.take 12 ++ zeros 10).length = 22 ∧ (frame64.take 12 ++ zeros 10).take 12 = frame64.take 12
       ∧ restoreFrame false true (frame64.take 12 ++ zeros 10 ++ plaintextOf v frame64) = some (frame64.take 60, 0x0800))
    ∧ ((after (.headRelease 0) (releasing in5 ([8, 0] ++ zeros 46))).path .ingress 0).queue.map (fun e => (e.state, e.data.length))
      = [(.done, 60)]
    ∧ ((after (.headRelease 0) (releasing nextIn5 ([8, 0] ++ zeros 46))).record 5).generation = 21 := by decide +kernel

/-- An ingress record with a rollover wanted, a READY key and a key in OLD. -/
def rolling (old : Option Key) : Record := { in5 with wanted := true, nxt := some nxtKey, old := old }

theorem witness_KeysAndRecordsEnd :
    (let k := { curKey with phase := 3, state := .retiring }
     (rolling (some k)).old = some k ∧ k.state = .retiring ∧ k.inFlight = 0
     ∧ ((after (.retiringKeyDestroyed 5) (running.setRecord 5 (rolling (some k)))).record 5).generation = 21)
    ∧ (let k := { curKey with phase := 3, state := .grace, graceAt := some 900, inFlight := 1 }
       ((after (.graceExpiry 5) (running.setRecord 5 (rolling (some k)))).record 5).old
        = some { k with state := .retiring, graceAt := none })
    ∧ (after (.drainEnd 5) (running.setRecord 5 { live with state := .draining })).record 5 = Record.blank 41
    ∧ (rolling none).wanted = true ∧ (rolling none).state = .live ∧ (rolling none).old = none ∧ nxtKey.state = .ready
    ∧ ((after (.deferredIngressRollover 5) (running.setRecord 5 (rolling none))).record 5).old.map Key.graceAt = some (some 1000000000)
    ∧ ((after (.deferredRollover 5) (running.setRecord 5 { staged with wanted := true })).record 5).generation = 42 := by decide +kernel

theorem witness_HoldsExpire :
    (let s := queued (running.setRecord 5 live) .egress 0 heldPair
     (s.path .egress (s.record 5).link).queue.find? (Entry.isHeldOf 5) = some (entry (.held 10 500) (some 5) none none)
     ∧ (after (.holdDeadline 5) s).now = 500 ∧ ((after (.holdDeadline 5) s).path .egress 0).queue.map Entry.state = [.waiting, .dropped .holdExpired])
    ∧ (let s := queued (running.setRecord 5 in5) .ingress 0 heldIn
       (s.path .ingress (s.record 5).link).queue.find? (Entry.isHeldOf 5) = heldIn.head?)
    ∧ ((running.setRecord 5 live).path .egress 0).queue.filter (Entry.isHeldOf 5) = [] := by decide +kernel

/-! ### Witnesses: the control line -/

theorem witness_RequestFramesAreQueued :
    running.device.state ≠ .inReset ∧ running.control.receiver = .hunt ∧ (req 0x44 []).body.length ≤ 1024
    ∧ (let frame := lineFrame ([0x51, 7, 0x44, 0, 0, 0] ++ [])
       (after (.hostFrameReceived frame) running).control.requests = [req 0x44 []])
    ∧ crc16 (u16 6 ++ zeros 6) ≠ [1, 2] ∧ byteAt (zeros 6) 0 ≠ 0x51
    ∧ (5 < 6 ∧ 1030 < 1031 ∧ 1031 < 65536)
    ∧ (after (.interByteTimeout [0xC3, 0, 9]) running).control.receiver = .hunt
    ∧ (running.withDevice { running.device with state := .inReset }).device.state = .inReset := by decide +kernel

/-- R169: the transmitter begins the first of two QUEUE-FULL replies before the second request is received. -/
theorem test_idle_line_begins_at_once :
    let s := running.withControl { Control.blank with requests := List.replicate 8 (req 0x44 []) }
    let frame := lineFrame [0x51, 7, 0x44, 0, 0, 0]
    (after (.hostFrameReceived (frame ++ frame)) s).control.sending.isSome = true
    ∧ (after (.hostFrameReceived (frame ++ frame)) s).control.replies.length = 1 := by decide +kernel

/-- A ready reply. -/
def okReply : Reply := { executed := true, tag := 7, code := 0x44, status := .ok, flags := Flags.none, doneCount := 0, body := [] }

theorem witness_TransmitterSendsRepliesFirst :
    (let c := { Control.blank with requests := [req 0x44 []] }; c.replies = [] ∧ c.sending = none ∧ c.requests = [req 0x44 []])
    ∧ (let s := running.withControl { Control.blank with replies := [okReply], notices := [.portUp 1 .rack], sending := some [1] }
       s.control.replies = [okReply] ∧ (after .controlFrameSent s).control.sending = some (lineFrame [0x52, 7, 0x44, 0, 0, 0]))
    ∧ (let s := running.withControl { Control.blank with notices := [.portUp 1 .rack], sending := some [1] }
       s.control.replies = [] ∧ s.control.notices = [.portUp 1 .rack])
    ∧ running.control.replies = [] ∧ running.control.notices = [] := by decide +kernel

end Sys2Proof.Tests
end

section
/-! SUPPORT. Rounding up to a multiple of the pad quantum, and the envelope values of a frame whose envelope fits whole (R8, R9). -/

namespace Sys2Proof.Machine

/-! ### Rounding up to a multiple -/

/-- `ceilDiv` is the quotient of a least multiple. -/
theorem ceilDiv_le_iff {a b c : Nat} (hb : 0 < b) : ceilDiv a b ≤ c ↔ a ≤ b * c := by
  rw [show ceilDiv a b = a ⌈/⌉ b from (Nat.ceilDiv_eq_add_pred_div a b).symm]
  exact ceilDiv_le_iff_le_mul hb

theorem le_ceilDiv_mul {b : Nat} (hb : 0 < b) (a : Nat) : a ≤ ceilDiv a b * b := by
  rw [Nat.mul_comm]
  exact (ceilDiv_le_iff hb).1 le_rfl

theorem ceilDiv_mul_le_of_dvd {a b t : Nat} (hb : 0 < b) (hdvd : b ∣ t) (hle : a ≤ t) : ceilDiv a b * b ≤ t := by
  obtain ⟨k, rfl⟩ := hdvd
  have hk : ceilDiv a b ≤ k := (ceilDiv_le_iff hb).2 hle
  rw [Nat.mul_comm b k]
  exact Nat.mul_le_mul_right b hk

theorem ceilDiv_mul_le_add_pred (a b : Nat) : ceilDiv a b * b ≤ a + b - 1 := Nat.div_mul_le_self _ _

theorem ceilDiv_mul_eq_self_of_dvd {a b : Nat} (hb : 0 < b) (hdvd : b ∣ a) : ceilDiv a b * b = a :=
  le_antisymm (ceilDiv_mul_le_of_dvd hb hdvd le_rfl) (le_ceilDiv_mul hb a)

/-- One above a multiple, the distance to the next multiple is the greatest. -/
theorem ceilDiv_mul_of_mod_eq_one {a b : Nat} (hb : 0 < b) (hmod : a % b = 1 % b) : ceilDiv a b * b = a + b - 1 := by
  have hdvd : b ∣ a + b - 1 := by
    have hcong : a + (b - 1) ≡ 1 + (b - 1) [MOD b] := Nat.ModEq.add_right _ hmod
    rw [Nat.add_sub_cancel' hb] at hcong
    rw [Nat.add_sub_assoc hb]
    exact (hcong.dvd_iff dvd_rfl).2 dvd_rfl
  exact Nat.div_mul_cancel hdvd

/-! ### The padding of an envelope -/

theorem padBytes_of_unpadded {v : EnvValues} (h : v.padded = false) : padBytes v = [] := by simp [padBytes, h]

theorem padBytes_of_padded {v : EnvValues} (h : v.padded = true) : padBytes v = zeros v.z ++ u16 v.z := by simp [padBytes, h]

/-- R8: padding of length 0 is the trailer alone. -/
theorem zeros_append_u16_zero : zeros 0 ++ u16 0 = [0, 0] := by decide

/-- R8: P is what a frame holds beside its addresses, its FCS and an exposed tag, with the lower bounds that L ≥ 64 gives it. -/
theorem plainLength_bounds {len : Nat} (x : Bool) (hlen : 64 ≤ len) :
    len - 16 - tagBytes x + 16 + tagBytes x = len ∧ (if x then 44 else 48) ≤ len - 16 - tagBytes x := by
  cases x <;> simp [tagBytes] <;> omega

/-- R8, R9: with quantum 0 an envelope that fits carries the plaintext as it is. -/
theorem envelopeOf_unpadded {len m : Nat} {x : Bool} (hfit : len - 16 - tagBytes x + 42 + tagBytes x ≤ m) :
    envelopeOf len x 0 m = some (envValues x (len - 16 - tagBytes x) 0 false (len - 16 - tagBytes x), false) := by
  simp [envelopeOf, hfit]

/-- R8, R9: with a quantum `q` an envelope that fits whole is padded to the multiple of `q` that takes P and the trailer. -/
theorem envelopeOf_padded {len q m p t : Nat} {x : Bool} (hq : 0 < q) (hp : p = len - 16 - tagBytes x)
    (ht : t = ceilDiv (p + 2) q * q) (hfit : t + 42 + tagBytes x ≤ m) :
    envelopeOf len x q m = some (envValues x p (t - p - 2) true t, false) := by
  subst hp ht
  simp [envelopeOf, hq.ne', hfit]

end Sys2Proof.Machine
end

section
/-! Certificates: the link envelope. -/

namespace Sys2Proof.Machine

/-- Settles O48: by cases on the quantum. With a quantum the padded length is `ceilDiv (P + 2) q * q`, and each clause is a property of
that multiple. -/
theorem envelopePadding : Obligations.EnvelopePadding := by
  unfold Obligations.EnvelopePadding
  intro len q m x hlen _ hm
  obtain ⟨hplain, hlow⟩ := plainLength_bounds x hlen
  generalize hp : len - 16 - tagBytes x = p at hplain hlow
  obtain rfl | hq := Nat.eq_zero_or_pos q
  · have henv : envelopeOf len x 0 m = some (envValues x p 0 false p, false) := by
      subst hp
      exact envelopeOf_unpadded (by omega)
    exact ⟨_, henv, rfl, hplain, hlow, fun _ => ⟨rfl, rfl, rfl, padBytes_of_unpadded rfl⟩, fun h => absurd h (lt_irrefl 0)⟩
  · obtain ⟨t, ht⟩ : ∃ t, t = ceilDiv (p + 2) q * q := ⟨_, rfl⟩
    have hdvd : q ∣ t := ht ▸ Nat.dvd_mul_left q _
    have hroom : p + 2 ≤ t := ht ▸ le_ceilDiv_mul hq (p + 2)
    have hleast : ∀ u, q ∣ u → p + 2 ≤ u → t ≤ u := fun u hu hle => ht ▸ ceilDiv_mul_le_of_dvd hq hu hle
    have hupper : t ≤ p + 2 + q - 1 := ht ▸ ceilDiv_mul_le_add_pred (p + 2) q
    have hexact : q ∣ p + 2 → t = p + 2 := fun h => ht ▸ ceilDiv_mul_eq_self_of_dvd hq h
    have hgreatest : (p + 2) % q = 1 % q → t = p + 2 + q - 1 := fun h => ht ▸ ceilDiv_mul_of_mod_eq_one hq h
    have hz : q ∣ p + 2 → t - p - 2 = 0 := fun h => by rw [hexact h]; omega
    have henv : envelopeOf len x q m = some (envValues x p (t - p - 2) true t, false) :=
      envelopeOf_padded hq hp.symm ht (by omega)
    have hpad : padBytes (envValues x p (t - p - 2) true t) = zeros (t - p - 2) ++ u16 (t - p - 2) := padBytes_of_padded rfl
    refine ⟨_, henv, rfl, hplain, hlow, fun h => absurd h hq.ne', fun _ => ⟨hdvd, hroom, hleast, rfl, rfl, hpad, ?_, ?_, ?_⟩⟩
    · intro h
      exact ⟨hz h, by rw [hpad, hz h, zeros_append_u16_zero]⟩
    · change t - p - 2 ≤ q - 1
      omega
    · intro h
      change t - p - 2 = q - 1
      have := hgreatest h
      omega

end Sys2Proof.Machine
end

section
/-! SUPPORT. What each condition code tests of a record, what a test leaves in the state, and what a false condition answers (R32, R33). -/

namespace Sys2Proof.Machine

/-! ### The tests (Table 10-3) -/

/-- R29, R32: the soft flag counts for a CUR key in IN-USE or SPENT only. -/
theorem Record.softFlag_iff (r : Record) :
    r.softFlag = true ↔ ∃ k, r.cur = some k ∧ (k.state = .inUse ∨ k.state = .spent) ∧ k.soft = true := by
  cases hcur : r.cur <;> simp [Record.softFlag, hcur]

theorem Record.softFlag_of_cur_none {r : Record} (h : r.cur = none) : r.softFlag = false := by simp [Record.softFlag, h]

/-- Code 0 is no condition. -/
@[simp] theorem Record.meets_unconditional (r : Record) (arg : Byte) : r.meets 0 arg = true := rfl

@[simp] theorem Record.meets_ifEmpty (r : Record) (arg : Byte) : r.meets 1 arg = true ↔ r.state = .empty := beq_iff_eq

@[simp] theorem Record.meets_ifOpened (r : Record) (arg : Byte) : r.meets 2 arg = true ↔ r.state = .opened := beq_iff_eq

@[simp] theorem Record.meets_ifLive (r : Record) (arg : Byte) : r.meets 3 arg = true ↔ r.state = .live := beq_iff_eq

@[simp] theorem Record.meets_ifExhausted (r : Record) (arg : Byte) : r.meets 4 arg = true ↔ r.state = .exhausted := beq_iff_eq

@[simp] theorem Record.meets_ifSoft (r : Record) (arg : Byte) : r.meets 5 arg = r.softFlag := rfl

@[simp] theorem Record.meets_ifNotStaged (r : Record) (arg : Byte) : r.meets 6 arg = true ↔ r.nxt = none := Option.isNone_iff_eq_none

@[simp] theorem Record.meets_ifGen (r : Record) (arg : Byte) : r.meets 7 arg = true ↔ r.generation = arg.toNat := beq_iff_eq

/-- R26, Table 2-1: a record that is EMPTY, OPENED or BARRED stages no key. -/
theorem Record.nxt_eq_none_of_keysSound {r : Record} (hsound : r.keysSound)
    (hstate : r.state = .empty ∨ r.state = .opened ∨ r.state = .barred) : r.nxt = none := by
  obtain ⟨-, hopened, hkeyless⟩ := hsound
  obtain hs | hs | hs := hstate
  · obtain ⟨-, hnxt, -⟩ := hkeyless (.inl hs)
    exact hnxt
  · obtain ⟨hnxt, -⟩ := hopened hs
    exact hnxt
  · obtain ⟨-, hnxt, -⟩ := hkeyless (.inr hs)
    exact hnxt

/-! ### What a test leaves, and what a false condition answers -/

theorem State.afterTest_of_ne (s : State) (a : AssocId) {cond : Byte} (h : cond ≠ 5) : s.afterTest a cond = s := if_neg h

theorem State.afterTest_ifSoft (s : State) (a : AssocId) : s.afterTest a 5 = s.setRecord a (s.record a).clearSoft := if_pos rfl

theorem State.itemIfMeets_of_false {s : State} {q : Request} {a : AssocId} (h : (s.record a).meets q.cond q.carg = false)
    (act : State → State × Flags × Status) :
    s.itemIfMeets q a act = (s.afterTest a q.cond, Flags.none, [Status.condFalse.code]) := by
  simp [State.itemIfMeets, h]

theorem State.ifMeets_of_false {s : State} {q : Request} {a : AssocId} (h : (s.record a).meets q.cond q.carg = false)
    (act : State → State) : s.ifMeets q a act = (s.afterTest a q.cond).answerOnce .condFalse Flags.none [] := by
  simp [State.ifMeets, h]

end Sys2Proof.Machine
end

section
/-! Certificates: the conditions of requests. -/

namespace Sys2Proof.Machine

/-- Settles O24: one clause for each code of Table 10-3, then the two places where a condition guards an act, then the clearing. -/
theorem conditionsTestTheRecord : Obligations.ConditionsTestTheRecord := by
  unfold Obligations.ConditionsTestTheRecord
  refine ⟨fun r arg => ?tests, fun s q a hfalse => ?falseCondition, fun s a cond => ?clearing⟩
  case tests =>
    rw [r.meets_ifSoft arg]
    exact ⟨r.meets_unconditional arg, r.meets_ifEmpty arg, r.meets_ifOpened arg, r.meets_ifLive arg, r.meets_ifExhausted arg,
      r.softFlag_iff, r.meets_ifNotStaged arg, r.meets_ifGen arg, Record.softFlag_of_cur_none,
      fun hsound hstate => (r.meets_ifNotStaged arg).2 (Record.nxt_eq_none_of_keysSound hsound hstate)⟩
  case falseCondition => exact ⟨State.itemIfMeets_of_false hfalse, State.ifMeets_of_false hfalse⟩
  case clearing =>
    refine ⟨s.afterTest_of_ne a, ?_⟩
    rintro rfl
    exact s.afterTest_ifSoft a

end Sys2Proof.Machine
end

section
/-! SUPPORT. The window test branch by branch, what accepting a packet number leaves in a window, windows of size 0 (R128, R130), and what
SET-ASSOC leaves of a record (R37). -/

namespace Sys2Proof.Machine

/-! ### The window test (R128) -/

@[simp] theorem Window.test_zero (w : Window) : w.test 0 = some .badPn := if_pos rfl

theorem Window.test_of_late {w : Window} {p : Nat} (hp : p ≠ 0) (hhigh : w.size < w.high) (hlate : p ≤ w.high - w.size) :
    w.test p = some .late := by
  simp [Window.test, hp, hhigh, hlate]

/-- The span of a window: past it on the low side lies what is LATE. -/
theorem Window.test_of_notLate {w : Window} {p : Nat} (hp : p ≠ 0) (hspan : w.high ≤ w.size ∨ w.high - w.size < p) :
    w.test p = if p ∈ w.marked then some .duplicate else none := by
  have hnotLate : ¬ (w.size < w.high ∧ p ≤ w.high - w.size) := by omega
  simp [Window.test, hp, hnotLate]

/-! ### Accepting a packet number (R130) -/

@[simp] theorem Window.accept_size (w : Window) (p : Nat) : (w.accept p).size = w.size := by
  unfold Window.accept
  split <;> rfl

theorem Window.accept_high_of_lt {w : Window} {p : Nat} (h : w.high < p) : (w.accept p).high = p := by
  simp [Window.accept, h]

/-! ### Windows of size 0 (R128) -/

/-- R128: with W = 0 every packet number up to H is refused. -/
theorem Window.high_lt_of_acceptable {w : Window} {p : Nat} (hsize : w.size = 0) (htest : w.test p = none) : w.high < p := by
  by_contra hle
  have hrefused : w.test p ≠ none := by
    obtain rfl | hp := eq_or_ne p 0
    · simp
    · rw [Window.test_of_late hp (by omega) (by omega)]
      simp
  exact hrefused htest

theorem Window.accept_marked_of_size_zero {w : Window} {p : Nat} (hsize : w.size = 0) (hlt : w.high < p) : (w.accept p).marked = [] := by
  simp [Window.accept, hlt, hsize]

/-- R128: with W = 0 the numbers that pass rise, beginning above H. -/
theorem Window.high_cons_passes_pairwise_lt {w : Window} (hsize : w.size = 0) (ps : List Nat) :
    (w.high :: w.passes ps).Pairwise (· < ·) := by
  induction ps generalizing w with
  | nil => exact List.pairwise_singleton _ _
  | cons p ps ih =>
    rw [Window.passes]
    split
    next htest =>
      have hlt : w.high < p := Window.high_lt_of_acceptable hsize htest
      have hrest := ih ((w.accept_size p).trans hsize)
      rw [Window.accept_high_of_lt hlt] at hrest
      exact List.pairwise_cons_cons_iff_of_trans.2 ⟨hlt, hrest⟩
    next => exact ih hsize

/-- R128: with W = 0 a window that marks nothing goes on marking nothing, whatever comes. -/
theorem Window.foldl_accept_marked_of_size_zero {w : Window} (hsize : w.size = 0) (hmarked : w.marked = []) (ps : List Nat) :
    (ps.foldl (fun w p => if w.test p = none then w.accept p else w) w).marked = [] := by
  induction ps generalizing w with
  | nil => exact hmarked
  | cons p ps ih =>
    rw [List.foldl_cons]
    split
    next htest =>
      exact ih ((w.accept_size p).trans hsize) (Window.accept_marked_of_size_zero hsize (Window.high_lt_of_acceptable hsize htest))
    next => exact ih hsize hmarked

/-! ### SET-ASSOC (R37) -/

/-- R37: SET-ASSOC changes nothing of the record but its parameters. -/
theorem State.record_setAssocRecord (s : State) (q : Request) (a : AssocId) :
    ∃ params, (State.setAssocRecord q a s).1.record a = { s.record a with params := params } := by
  dsimp only [State.setAssocRecord]
  split
  next => exact ⟨_, s.record_setRecord_same a _⟩
  next => exact ⟨(s.record a).params, rfl⟩

/-- The parameters of a record have no part in its keys. -/
@[simp] theorem Record.keyOf_withParams (r : Record) (params : AssocParams) (p : Phase) :
    { r with params := params }.keyOf p = r.keyOf p := rfl

end Sys2Proof.Machine
end

section
/-! Certificates: the acceptance window. -/

namespace Sys2Proof.Machine

/-- Settles O54: the branches of the window test and what accepting does; then the windows of size 0, by induction on the packet numbers
that come; then SET-ASSOC, which reaches only the record's parameters. -/
theorem windowTestRefusesInOrder : Obligations.WindowTestRefusesInOrder := by
  unfold Obligations.WindowTestRefusesInOrder
  refine ⟨fun w p => ?test, fun ps => ?sizeZero, fun s q a p => ?setAssoc⟩
  case test =>
    refine ⟨?_, Window.test_of_late, ?_, ?_, w.accept_size p, Window.accept_high_of_lt⟩
    · rintro rfl
      exact w.test_zero
    · intro hp hspan hmarked
      rw [Window.test_of_notLate hp hspan, if_pos hmarked]
    · intro hp hspan hunmarked
      rw [Window.test_of_notLate hp hspan, if_neg hunmarked]
  case sizeZero =>
    exact ⟨(Window.high_cons_passes_pairwise_lt (w := Window.empty 0) rfl ps).of_cons,
      Window.foldl_accept_marked_of_size_zero rfl rfl ps⟩
  case setAssoc =>
    obtain ⟨params, hrecord⟩ := s.record_setAssocRecord q a
    rw [hrecord, Record.keyOf_withParams]

end Sys2Proof.Machine
end

section
/-! SUPPORT. The reply of PROVISION-READ as a function of the provisioning area and the body, and what of the area it is made of (R179). -/

namespace Sys2Proof.Machine

@[simp] theorem numAt_singleton (b : Byte) : numAt [b] 0 1 = b.toNat := by simp [numAt, slice, beNat]

/-- R179: the customer half, its fields in their order. -/
theorem Provisioning.customerReport_eq (p : Provisioning) :
    p.customerReport
      = (match p.kwk with | some (_, check) => 1 :: check | none => [0, 0, 0, 0])
        ++ (match p.label with
            | some text => [1, BitVec.ofNat 8 text.length] ++ text ++ zeros (64 - text.length)
            | none => [0, 0] ++ zeros 64)
        ++ [if p.locked then 1 else 0] := by
  unfold Provisioning.customerReport
  rcases p.kwk with _ | ⟨key, check⟩ <;> rcases p.label with _ | text <;> simp [yesNo, u8, beBytes, padTo, zeros]

/-- R179: of the KWK the customer half holds the check value, and nothing of its key. -/
theorem Provisioning.customerReport_withKey {p : Provisioning} {key check : Bytes} (h : p.kwk = some (key, check)) (key' : Bytes) :
    { p with kwk := some (key', check) }.customerReport = p.customerReport := by
  simp [Provisioning.customerReport, h]

/-- R179: what PROVISION-READ answers to a body, its status and its data. -/
def Provisioning.readReply (p : Provisioning) : Bytes → Status × Bytes
  | [b] =>
    if b = 0 then (.ok, p.factoryReport)
    else if b = 1 then (.ok, p.customerReport)
    else (.badField, [])
  | _ => (.badLength, [])

theorem Provisioning.readReply_of_length_ne (p : Provisioning) {body : Bytes} (h : body.length ≠ 1) :
    p.readReply body = (.badLength, []) := by
  match body, h with
  | [], _ => rfl
  | _ :: _ :: _, _ => rfl

theorem Provisioning.readReply_of_one_lt (p : Provisioning) {b : Byte} (h : 1 < b.toNat) : p.readReply [b] = (.badField, []) := by
  have h0 : b ≠ 0 := by bv_omega
  have h1 : b ≠ 1 := by bv_omega
  exact (if_neg h0).trans (if_neg h1)

theorem Provisioning.readReply_withKey {p : Provisioning} {key check : Bytes} (h : p.kwk = some (key, check)) (key' body : Bytes) :
    { p with kwk := some (key', check) }.readReply body = p.readReply body := by
  unfold Provisioning.readReply
  rw [Provisioning.customerReport_withKey h key']
  rfl

/-- R179: PROVISION-READ on a body of one byte composes the reply that the byte asks for. -/
theorem State.provisionRead_of_singleton {q : Request} {b : Byte} (h : q.body = [b]) (s : State) :
    State.provisionRead q s = s.answerOnce (s.prov.readReply [b]).1 Flags.none (s.prov.readReply [b]).2 := by
  unfold State.provisionRead
  rw [h, numAt_singleton]
  split
  next h0 =>
    obtain rfl : b = 0 := BitVec.eq_of_toNat_eq h0
    rfl
  next h1 =>
    obtain rfl : b = 1 := BitVec.eq_of_toNat_eq h1
    rfl
  next h0 h1 =>
    have hlt : 1 < b.toNat := Nat.one_lt_iff_ne_zero_and_ne_one.2 ⟨h0, h1⟩
    rw [s.prov.readReply_of_one_lt hlt]

/-- R165, R179: PROVISION-READ replies and does nothing else. -/
theorem exec_provisionRead_of_asks {s : State} {q : Request} {rest : List Request} (h : s.asks q rest 0x52) :
    exec .provisionRead s
      = .next (s.withControl (s.control.replied q (s.prov.readReply q.body).1 Flags.none (s.prov.readReply q.body).2)) := by
  have ⟨⟨hrequests, _⟩, _⟩ := h
  have hreply : s.withBody q 1 (State.provisionRead q s)
      = s.answerOnce (s.prov.readReply q.body).1 Flags.none (s.prov.readReply q.body).2 := by
    by_cases hlen : q.body.length = 1
    · obtain ⟨b, hb⟩ := List.length_eq_one_iff.1 hlen
      rw [withBody_of_length hlen, State.provisionRead_of_singleton hb, hb]
    · rw [s.prov.readReply_of_length_ne hlen]
      exact if_neg hlen
  calc exec .provisionRead s
      = .next (s.withBody q 1 (State.provisionRead q s)).pump := congrArg _ (runOnce_of_asks h false false _)
    _ = _ := by rw [hreply, answerOnce_pump hrequests]

/-- R165: a request that is neither conditional nor for every device state, with a condition, on a RUNNING device. -/
theorem runOnce_of_notConditional {s : State} {q : Request} {rest : List Request} {code : Byte} (h : s.canBegin q rest)
    (hrunning : s.device.state = .running) (hcode : q.code = code) (hcond : q.cond ≠ 0) (act : Request → State → State) :
    s.runOnce code false false act = s.withControl (s.control.answer .notConditional Flags.none 0 []).pump := by
  have hcheck : generalCheck s.device.state false false q = some .notConditional := by
    rw [generalCheck, if_neg (fun ⟨_, hstate⟩ => hstate hrunning), if_pos ⟨hcond, rfl⟩]
  rw [State.runOnce, beginRequest_of_canBegin h hcode, hcheck]
  exact refuse_pump s .notConditional

end Sys2Proof.Machine
end

section
/-! Certificates: the reading of the provisioning area. -/

namespace Sys2Proof.Machine

/-- Settles O13: the reply is `readReply` of the area and the body, one clause for each of its branches; then the general check of the
condition; then `readReply` again, which the KWK has no part in. -/
theorem provisionReadReportsOneHalf : Obligations.ProvisionReadReportsOneHalf := by
  unfold Obligations.ProvisionReadReportsOneHalf
  refine ⟨fun s q rest hasks => ?replies, fun s q rest hbegin hrunning hcode hcond => ?condition,
    fun s key key' check hkwk q rest hasks t t' ht ht' => ?kwkHidden⟩
  case replies =>
    rw [exec_provisionRead_of_asks hasks]
    refine ⟨fun hlen => ?_, fun b hbody hb => ?_, fun hbody => ?_, fun hbody => ?_⟩
    · rw [s.prov.readReply_of_length_ne hlen]
    · rw [hbody, s.prov.readReply_of_one_lt hb]
    · rw [hbody]
      rfl
    · rw [hbody]
      exact congrArg (fun report => Host.Outcome.next (s.withControl (s.control.replied q .ok Flags.none report)))
        s.prov.customerReport_eq
  case condition => exact congrArg Host.Outcome.next (runOnce_of_notConditional hbegin hrunning hcode hcond _)
  case kwkHidden =>
    have hasks' : (s.withProv { s.prov with kwk := some (key', check) }).asks q rest 0x52 := hasks
    rw [exec_provisionRead_of_asks hasks] at ht
    rw [exec_provisionRead_of_asks hasks', State.withProv_prov, Provisioning.readReply_withKey hkwk] at ht'
    cases ht
    cases ht'
    rfl

end Sys2Proof.Machine
end

section
/-! SUPPORT. The writes that traffic, the events of the Store and the effects of requests are made of: one inductive relation that says
once what a change can do to the State, and for each shared operation that it is a sequence of such writes. The invariants of the part
are proved of one write, and hold along every sequence of them. -/

namespace Sys2Proof.Machine

/-! ### Entries that refer to keys and lanes (R30, R119) -/

/-- Whether an entry is neither WAITING nor IN-LANE: it is counted for no key and stands in no lane. -/
def Entry.atRest (e : Entry) : Bool :=
  match e.state with
  | .waiting => false
  | .inLane _ => false
  | _ => true

theorem Entry.countsFor_of_atRest {e : Entry} (h : e.atRest = true) (a : AssocId) (p : Phase) : e.countsFor a p = false := by
  unfold Entry.atRest at h
  unfold Entry.countsFor
  split at h <;> simp_all

theorem Entry.inLane_of_atRest {e : Entry} (h : e.atRest = true) (l : LaneId) : (e.state == .inLane l) = false := by
  unfold Entry.atRest at h
  split at h <;> simp_all

theorem Entry.atRest_of_isDropped {e : Entry} (h : e.isDropped = true) : e.atRest = true := by
  unfold Entry.isDropped at h
  unfold Entry.atRest
  split at h <;> simp_all

theorem Entry.atRest_of_isHeldOf {e : Entry} {a : AssocId} (h : e.isHeldOf a = true) : e.atRest = true := by
  unfold Entry.isHeldOf Entry.isHeld at h
  unfold Entry.atRest
  split at h <;> simp_all

theorem Entry.atRest_of_verified {e : Entry} (h : e.state = .verified) : e.atRest = true := by simp [Entry.atRest, h]

theorem Entry.atRest_of_done {e : Entry} (h : e.state = .done) : e.atRest = true := by simp [Entry.atRest, h]

@[simp] theorem Entry.atRest_drop (e : Entry) (why : Reason) : (e.drop why).atRest = true := rfl

/-- Two queues that refer to every key as often, and hold as many entries of every lane. -/
def sameRefs (q q' : List Entry) : Prop :=
  (∀ a p, q'.countP (Entry.countsFor a p) = q.countP (Entry.countsFor a p))
    ∧ ∀ l, q'.countP (fun e => e.state == .inLane l) = q.countP fun e => e.state == .inLane l

theorem sameRefs.refl (q : List Entry) : sameRefs q q := ⟨fun _ _ => rfl, fun _ => rfl⟩

theorem sameRefs.of_eq {q q' : List Entry} (h : q' = q) : sameRefs q q' := h ▸ sameRefs.refl q

theorem sameRefs.trans {q q' q'' : List Entry} (h : sameRefs q q') (h' : sameRefs q' q'') : sameRefs q q'' :=
  ⟨fun a p => (h'.1 a p).trans (h.1 a p), fun l => (h'.2 l).trans (h.2 l)⟩

theorem sameRefs.tail {e : Entry} (h : e.atRest = true) (rest : List Entry) : sameRefs (e :: rest) rest :=
  ⟨fun a p => by simp [Entry.countsFor_of_atRest h], fun l => by simp only [List.countP_cons, Entry.inLane_of_atRest h]; rfl⟩

theorem sameRefs.append {e : Entry} (h : e.atRest = true) (q : List Entry) : sameRefs q (q ++ [e]) :=
  ⟨fun a p => by simp [Entry.countsFor_of_atRest h],
    fun l => by simp only [List.countP_append, List.countP_singleton, Entry.inLane_of_atRest h]; rfl⟩

theorem sameRefs.cons {e e' : Entry} (h : e.atRest = true) (h' : e'.atRest = true) (rest : List Entry) :
    sameRefs (e :: rest) (e' :: rest) :=
  ⟨fun a p => by simp [Entry.countsFor_of_atRest h, Entry.countsFor_of_atRest h'],
    fun l => by simp only [List.countP_cons, Entry.inLane_of_atRest h, Entry.inLane_of_atRest h']⟩

/-- Rewriting entries that are at rest, before and after, changes no reference. -/
theorem sameRefs.map {f : Entry → Entry} {q : List Entry} (h : ∀ e ∈ q, f e = e ∨ (e.atRest = true ∧ (f e).atRest = true)) :
    sameRefs q (q.map f) := by
  constructor
  · intro a p
    rw [List.countP_map]
    refine List.countP_congr fun e he => ?_
    obtain hf | ⟨h1, h2⟩ := h e he
    · simp [hf]
    · simp [Entry.countsFor_of_atRest h1, Entry.countsFor_of_atRest h2]
  · intro l
    rw [List.countP_map]
    refine List.countP_congr fun e he => ?_
    obtain hf | ⟨h1, h2⟩ := h e he
    · simp [hf]
    · simp only [Function.comp, Entry.inLane_of_atRest h1, Entry.inLane_of_atRest h2]

/-- Entries at rest that are dropped in place change no reference. -/
theorem sameRefs.drops {chosen : Entry → Bool} {why : Reason} {q : List Entry} (h : ∀ e ∈ q, chosen e = true → e.atRest = true) :
    sameRefs q (q.map fun e => if chosen e && !e.isDropped then e.drop why else e) := by
  refine sameRefs.map fun e he => ?_
  by_cases hc : (chosen e && !e.isDropped) = true
  · exact .inr ⟨h e he (by simp_all), by simp [hc]⟩
  · exact .inl (by simp [hc])

/-! ### What a change can do to a record -/

/-- The writes of one record that leave its keys' phases, their in-flight counts and what an install waits for as they are, or end a
key, open a record or advance its state as the rules allow. -/
inductive Record.Move (r : Record) : Record → Prop where
  /-- counts, markers and parameters -/
  | book (r' : Record) : r'.state = r.state → r'.cur = r.cur → r'.nxt = r.nxt → r'.old = r.old →
      (r.params.inRange → r'.params.inRange) → Move r r'
  /-- what a key holds beside its state, phase and in-flight count -/
  | mapKey (p : Phase) (f : Key → Key) : (∀ k, (f k).state = k.state ∧ (f k).phase = k.phase ∧ (f k).inFlight = k.inFlight) →
      Move r (r.mapKey p f)
  | cur (f : Key → Key) : (∀ k, (f k).state = k.state ∧ (f k).phase = k.phase ∧ (f k).inFlight = k.inFlight) →
      Move r { r with cur := r.cur.map f }
  /-- R76 -/
  | exhaust : r.state = .live → Move r { r with wanted := true, state := .exhausted }
  /-- R84 -/
  | destroyOld (k : Key) : r.old = some k → k.inFlight = 0 → Move r { r with old := none }
  /-- R137 -/
  | retireOld (k : Key) : r.old = some k → k.state = .grace → Move r { r with old := some { k with state := .retiring, graceAt := none } }
  /-- R36 -/
  | opened (d : Dir) (n : LinkId) (channel : Nat) (p : AssocParams) : r.state = .empty → p.inRange →
      Move r (openedRecord r d n channel p)

/-! ### The writes -/

/-- One write of a change. -/
inductive State.Write (s : State) : State → Prop where
  | now (v : Nat) : Write s (s.withNow v)
  | notify (v : Notice) : Write s (s.notify v)
  | pump : Write s s.pump
  /-- R173 -/
  | clearLost : Write s s.clearLost
  | flow (v : FlowTable) : (s.flow.sound → v.sound) → Write s (s.withFlow v)
  | rules (v : Vector RangeRule 32) : Write s (s.withRules v)
  /-- a link, its queues referring to the same keys and lanes -/
  | link (n : LinkId) (l : Link) : sameRefs (s.link n).egress.queue l.egress.queue → sameRefs (s.link n).ingress.queue l.ingress.queue →
      ((s.params n).inRange → l.params.inRange) → Write s (s.setLink n l)
  | record (a : AssocId) (r : Record) : Record.Move (s.record a) r → Write s (s.setRecord a r)
  /-- R54, R86: a record is to drain; no install waits for it, since none is in progress beside another request or an ACTIVE purge -/
  | shut (a : AssocId) (st : RecState) : s.control.exec ≠ .installing ∨ s.bank.purge.any Purge.active = true → st = .draining ∨ st = .purging →
      Write s (s.setRecord a { s.record a with
        state := st, wanted := false, old := (s.record a).old.map fun k => { k with graceAt := none } })
  /-- R66 to R68 -/
  | charge (n : LinkId) (a : AssocId) (e : Entry) (k : Key) : (s.record a).cur = some k → k.state ≠ .loading → e.assoc = some a →
      Write s (s.takeUnderCur n a e)
  /-- R129 -/
  | enter (n : LinkId) (a : AssocId) (e : Entry) (p : Phase) (k : Key) : (s.record a).keyOf p = some k → k.state ≠ .loading →
      e.assoc = some a → Write s ((s.setRecord a ((s.record a).mapKey p Key.hold)).append .ingress n
        { e with state := .waiting, key := some p })
  /-- R71 -/
  | rollEgress (a : AssocId) (cause : RollCause) : slotIs (s.record a).nxt .ready = true → (s.record a).old = none →
      Write s (s.rollEgress a cause)
  /-- R135 -/
  | rollIngress (a : AssocId) : slotIs (s.record a).nxt .ready = true → (s.record a).old = none → Write s (s.rollIngress a)
  /-- R24, R31 -/
  | empty (a : AssocId) (after : RecState) :
      (((s.record a).state = .draining ∨ (s.record a).state = .purging) ∧ (s.record a).drained = true) ∨ (s.record a).state = .barred →
      after = .empty ∨ after = .barred →
      Write s ((s.setRecord a { Record.blank (s.record a).generation with state := after }).unname a)
  /-- R52 to R59: the purge record and the last results -/
  | bank (v : BankUnit) : v.install = s.bank.install →
      (v.stop = s.bank.stop ∨ (v.stop = .none ∧ s.control.exec ≠ .awaitingBoundary)) →
      (v.purge.any Purge.active = true → s.bank.purge.any Purge.active = true ∨ s.bank.install = none) → Write s (s.withBank v)
  /-- R57, R59: a pending stop takes effect and is answered -/
  | stop (v : BankUnit) (ns : List Notice) (st : Status) (body : Bytes) : s.bank.stop ≠ .none → v.install = s.bank.install →
      v.stop = .none → (v.purge.any Purge.active = true → s.bank.purge.any Purge.active = true) →
      Write s (((s.withBank v).notifyAll ns).answerOnce st Flags.none body)

/-- A sequence of writes. -/
abbrev State.Writes : State → State → Prop := Relation.ReflTransGen State.Write

theorem State.Write.writes {s t : State} (h : s.Write t) : s.Writes t := Relation.ReflTransGen.single h

theorem State.Writes.none (s : State) : s.Writes s := Relation.ReflTransGen.refl

/-- What every write keeps, every sequence of writes keeps. -/
theorem State.Writes.keep {P : State → Prop} (hw : ∀ s t, P s → s.Write t → P t) {s t : State} (h : s.Writes t) (hs : P s) : P t := by
  induction h with
  | refl => exact hs
  | tail _ hstep ih => exact hw _ _ ih hstep

/-! ### Links, ports, paths -/

theorem State.setPort_writes (s : State) (side : Side) (n : LinkId) (p : Port) : s.Writes (s.setPort side n p) := by
  refine (State.Write.link n _ ?_ ?_ ?_).writes
  · cases side <;> exact sameRefs.refl _
  · cases side <;> exact sameRefs.refl _
  · cases side <;> exact id

theorem State.setPath_writes (s : State) (d : Dir) (n : LinkId) (p : Path) (h : sameRefs (s.path d n).queue p.queue) :
    s.Writes (s.setPath d n p) := by
  refine (State.Write.link n _ ?_ ?_ ?_).writes
  · cases d
    · exact h
    · exact sameRefs.refl _
  · cases d
    · exact sameRefs.refl _
    · exact h
  · cases d <;> exact id

theorem State.setQueue_writes (s : State) (d : Dir) (n : LinkId) (q : List Entry) (h : sameRefs (s.path d n).queue q) :
    s.Writes (s.setQueue d n q) := State.setPath_writes s d n _ h

/-- A link whose queues and parameters stay. -/
theorem State.setLink_writes (s : State) (n : LinkId) (l : Link) (he : l.egress.queue = (s.link n).egress.queue)
    (hi : l.ingress.queue = (s.link n).ingress.queue) (hp : l.params = (s.link n).params) : s.Writes (s.setLink n l) :=
  (State.Write.link n l (sameRefs.of_eq he) (sameRefs.of_eq hi) fun h => by rwa [hp]).writes

theorem State.setCover_writes (s : State) (n : LinkId) (c : CoverGen) : s.Writes (s.setCover n c) :=
  s.setLink_writes n _ rfl rfl rfl

theorem State.countDrop_writes (s : State) (d : Dir) (n : LinkId) (why : Reason) (k : Nat) : s.Writes (s.countDrop d n why k) :=
  State.setPath_writes s d n _ (sameRefs.refl _)

theorem State.pathStep_writes {s t : State} {d : Dir} {n : LinkId} {p : Path} (h : s.pathStep t d n p)
    (hq : sameRefs (s.path d n).queue p.queue) : s.Writes t := by
  obtain ⟨ks, rfl⟩ := h
  exact (State.setPath_writes s d n p hq).trans (State.setPort_writes _ _ _ _)

theorem State.askPause_writes (s : State) (side : Side) (n : LinkId) (k : PauseKind) : s.Writes (s.askPause side n k) := by
  rw [State.askPause_eq]
  exact State.setPort_writes _ _ _ _

theorem State.pauseTest_writes (s : State) (d : Dir) (n : LinkId) : s.Writes (s.pauseTest d n) := by
  exact State.pathStep_writes ⟨_, State.pauseTest_eq s d n _ _ rfl rfl⟩ (sameRefs.refl _)

theorem State.freeCells_writes (s : State) (d : Dir) (n : LinkId) (k : Nat) : s.Writes (s.freeCells d n k) := by
  obtain ⟨p, hstep, -, -, hq, -⟩ := s.freeCells_spec d n k
  exact State.pathStep_writes hstep (sameRefs.of_eq hq)

theorem State.takeCells_writes (s : State) (d : Dir) (n : LinkId) (k : Nat) : s.Writes (s.takeCells d n k) := by
  obtain ⟨p, hstep, -, -, hq, -⟩ := s.takeCells_spec d n k
  exact State.pathStep_writes hstep (sameRefs.of_eq hq)

theorem State.dropFrame_writes (s : State) (d : Dir) (n : LinkId) (why : Reason) (k : Nat) : s.Writes (s.dropFrame d n why k) :=
  (State.countDrop_writes s d n why 1).trans (State.freeCells_writes _ _ _ _)

theorem State.dropEntries_writes (s : State) (d : Dir) (n : LinkId) (chosen : Entry → Bool) (why : Reason)
    (h : ∀ e ∈ (s.path d n).queue, chosen e = true → e.atRest = true) : s.Writes (s.dropEntries d n chosen why) := by
  obtain ⟨p, hstep, -, -, hq, -⟩ := s.dropEntries_spec d n chosen why
  exact State.pathStep_writes hstep (hq ▸ sameRefs.drops h)

theorem State.dropHeld_writes (s : State) (d : Dir) (n : LinkId) (a : AssocId) (why : Reason) :
    s.Writes (s.dropEntries d n (Entry.isHeldOf a) why) :=
  State.dropEntries_writes s d n _ why fun _ _ => Entry.atRest_of_isHeldOf

theorem State.dropHead_writes (s : State) (d : Dir) (n : LinkId) (why : Reason) {e : Entry} {rest : List Entry}
    (hq : (s.path d n).queue = e :: rest) (h : e.atRest = true) : s.Writes (s.dropHead d n why) := by
  obtain ⟨p, hstep, -, -, hp, -⟩ := s.dropHead_spec d n why e rest hq
  exact State.pathStep_writes hstep (by rw [hq, hp]; exact sameRefs.tail h rest)

theorem State.popHead_writes (s : State) (d : Dir) (n : LinkId) {e : Entry} {rest : List Entry}
    (hq : (s.path d n).queue = e :: rest) (h : e.atRest = true) : s.Writes (s.popHead d n) :=
  State.setQueue_writes s d n _ (by rw [hq]; exact sameRefs.tail h rest)

theorem State.append_writes (s : State) (d : Dir) (n : LinkId) (e : Entry) (h : e.atRest = true) : s.Writes (s.append d n e) :=
  State.setQueue_writes s d n _ (sameRefs.append h _)

theorem State.thresholdTest_writes (s : State) (d : Dir) (n : LinkId) (old : BufferParams) : s.Writes (s.thresholdTest d n old) := by
  unfold State.thresholdTest
  dsimp only
  split
  · exact State.Writes.none s
  · exact State.pauseTest_writes s d n

/-! ### Notices and records -/

theorem State.notify_writes (s : State) (v : Notice) : s.Writes (s.notify v) := (State.Write.notify v).writes

theorem State.notifyAll_writes (s : State) (vs : List Notice) : s.Writes (s.notifyAll vs) := by
  induction vs generalizing s with
  | nil => exact State.Writes.none s
  | cons v vs ih => exact (s.notify_writes v).trans (ih (s.notify v))

theorem State.pump_writes (s : State) : s.Writes s.pump := State.Write.pump.writes

theorem State.withNow_writes (s : State) (v : Nat) : s.Writes (s.withNow v) := (State.Write.now v).writes

theorem State.setRecord_writes (s : State) (a : AssocId) {r : Record} (h : Record.Move (s.record a) r) : s.Writes (s.setRecord a r) :=
  (State.Write.record a r h).writes

theorem State.wantRollover_writes (s : State) (a : AssocId) : s.Writes (s.wantRollover a) :=
  State.setRecord_writes s a (.book _ rfl rfl rfl rfl id)

theorem State.countFrame_writes (s : State) (e : Entry) : s.Writes (s.countFrame e) := by
  unfold State.countFrame
  split
  · exact State.setRecord_writes s _ (.book _ rfl rfl rfl rfl id)
  · exact State.Writes.none s

/-- R32: the clearing of a soft flag. -/
theorem State.afterTest_writes (s : State) (a : AssocId) (cond : Byte) : s.Writes (s.afterTest a cond) := by
  unfold State.afterTest
  split
  · exact State.setRecord_writes s a (.cur _ fun k => ⟨rfl, rfl, rfl⟩)
  · exact State.Writes.none s

/-! ### Rollovers and the ends of keys (R71, R73, R84, R87, R135) -/

theorem slotIs_iff {k : Option Key} {st : KeyState} : slotIs k st = true ↔ ∃ x, k = some x ∧ x.state = st := by
  cases k <;> simp [slotIs]

theorem Record.canRoll_iff (r : Record) :
    r.canRoll = true ↔ (r.state = .live ∨ r.state = .exhausted) ∧ r.cur.isSome = true ∧ slotIs r.nxt .ready = true ∧ r.old = none := by
  simp [Record.canRoll, and_assoc]

theorem State.deferredRollover_writes (s : State) (a : AssocId) : s.Writes (s.deferredRollover a) := by
  unfold State.deferredRollover
  dsimp only
  split
  next h =>
    obtain ⟨-, -, hready, hold⟩ := (Record.canRoll_iff _).1 h.2
    split
    · exact (State.Write.rollEgress a _ hready hold).writes
    · exact (State.Write.rollIngress a hready hold).writes
  next => exact State.Writes.none s

theorem State.dropVerified_writes (s : State) (a : AssocId) (p : Phase) (why : Reason) : s.Writes (s.dropVerified a p why) :=
  State.dropEntries_writes s _ _ _ why fun e _ h => Entry.atRest_of_verified (by simp_all [Entry.isVerifiedOf])

@[simp] theorem State.record_pathStep {s t : State} {d : Dir} {n : LinkId} {p : Path} (h : s.pathStep t d n p) (a : AssocId) :
    t.record a = s.record a := by
  obtain ⟨ks, rfl⟩ := h
  simp

@[simp] theorem State.record_dropEntries (s : State) (d : Dir) (n : LinkId) (chosen : Entry → Bool) (why : Reason) (a : AssocId) :
    (s.dropEntries d n chosen why).record a = s.record a := by
  obtain ⟨p, hstep, -⟩ := s.dropEntries_spec d n chosen why
  exact State.record_pathStep hstep a

@[simp] theorem State.bank_dropEntries (s : State) (d : Dir) (n : LinkId) (chosen : Entry → Bool) (why : Reason) :
    (s.dropEntries d n chosen why).bank = s.bank := by
  obtain ⟨p, ⟨ks, h⟩, -⟩ := s.dropEntries_spec d n chosen why
  rw [h]; rfl

theorem State.destroyRetired_writes (s : State) (a : AssocId) : s.Writes (s.destroyRetired a) := by
  unfold State.destroyRetired
  dsimp only
  split
  next k hold =>
    split
    next hspent =>
      have hzero : k.inFlight = 0 := by simp_all [Record.oldSpent, slotInFlight]
      refine ((s.dropVerified_writes a k.phase .late).trans (State.setRecord_writes _ a ?_)).trans (State.deferredRollover_writes _ a)
      rw [State.dropVerified, State.record_dropEntries]
      exact .destroyOld k hold hzero
    next => exact State.Writes.none s
  next => exact State.Writes.none s

/-- R24, R31: the emptying of a record that may be emptied. -/
theorem State.emptyRecord_writes (s : State) (a : AssocId) (after : RecState) (why : Reason)
    (h : (s.record a).state = .draining ∨ (s.record a).state = .purging) (hd : (s.record a).drained = true)
    (hafter : after = .empty ∨ after = .barred) : s.Writes (s.emptyRecord a after why) := by
  refine (s.dropEntries_writes .ingress (s.record a).link (Entry.isVerifiedOfAny a) why fun e _ he =>
    Entry.atRest_of_verified (by simp_all [Entry.isVerifiedOfAny])).trans ?_
  have hmove := State.Write.empty (s := s.dropEntries .ingress (s.record a).link (Entry.isVerifiedOfAny a) why) a after
  simp only [State.record_dropEntries] at hmove
  exact (hmove (.inl ⟨h, hd⟩) hafter).writes

theorem State.drainEnd_writes (s : State) (a : AssocId) : s.Writes (s.drainEnd a) := by
  unfold State.drainEnd
  dsimp only
  split
  next h => exact (s.emptyRecord_writes a .empty .retired (.inl h.1) h.2 (.inl rfl)).trans (State.notify_writes _ _)
  next => exact State.Writes.none s

/-! ### Purges (R53 to R59) -/

/-- R57, R59: a purge that ends at a pending stop, and the answer to the request that asked for the stop. -/
theorem State.stopEnds_writes (s : State) (p : Purge) (cancelled : Bool) (st : Status) (body : Bytes) (h : s.bank.stop ≠ .none) :
    s.Writes ((s.endPurge p cancelled).answerOnce st Flags.none body) :=
  (State.Write.stop (s := s) { s.bank with purge := none, stop := .none, lastPurge := if cancelled then .cancelled else .done }
    [.purgeDone cancelled p] st body h rfl rfl (by simp)).writes

theorem State.endPurge_writes (s : State) (p : Purge) (cancelled : Bool)
    (h : s.bank.stop = .none ∨ s.control.exec ≠ .awaitingBoundary) : s.Writes (s.endPurge p cancelled) :=
  (State.Write.bank (s := s) { s.bank with purge := none, stop := .none, lastPurge := if cancelled then .cancelled else .done }
    rfl (h.imp Eq.symm fun h => ⟨rfl, h⟩) (by simp)).writes.trans (State.notify_writes _ _)

theorem State.boundary_writes (s : State) (p : Purge) (hp : s.bank.purge.any Purge.active = true ∨ p.active = false) :
    s.Writes (s.boundary p) := by
  unfold State.boundary
  dsimp only
  have hactive : p.active = true → s.bank.purge.any Purge.active = true := fun h => hp.resolve_right (by simp [h])
  split
  next hstop => exact s.stopEnds_writes _ true _ _ (by simp [hstop])
  next hstop => exact s.stopEnds_writes _ false _ _ (by simp [hstop])
  next hstop => exact s.endPurge_writes _ false (.inl hstop)
  next hstop => exact s.stopEnds_writes _ true _ _ (by simp [hstop])
  next hstop =>
    exact (State.Write.stop (s := s)
      { s.bank with purge := some { p with cursor := p.cursor + 1, visiting := false, active := false }, stop := .none }
      [] .ok [] (by simp [hstop]) rfl rfl (by simp)).writes
  next hstop =>
    exact (State.Write.bank (s := s) { s.bank with purge := some { p with cursor := p.cursor + 1, visiting := false } } rfl (.inl rfl)
      fun h => .inl (hactive (by simpa using h))).writes

@[simp] theorem State.bank_emptyRecord (s : State) (a : AssocId) (after : RecState) (why : Reason) :
    (s.emptyRecord a after why).bank = s.bank := by
  unfold State.emptyRecord
  exact s.bank_dropEntries _ _ _ _

theorem State.finishPurged_writes (s : State) : s.Writes s.finishPurged := by
  unfold State.finishPurged
  dsimp only
  split
  next p hp =>
    split
    next h =>
      refine (s.emptyRecord_writes _ _ .purged (.inr h.2.1) h.2.2 (by split <;> simp)).trans (State.boundary_writes _ _ ?_)
      rw [State.bank_emptyRecord, hp]
      cases hact : p.active <;> simp [hact]
    next => exact State.Writes.none s
  next => exact State.Writes.none s

theorem State.storeActs_writes (s : State) (a : AssocId) : s.Writes (s.storeActs a) := by
  unfold State.storeActs
  dsimp only
  refine (s.destroyRetired_writes a).trans ?_
  split
  · exact State.drainEnd_writes _ a
  · exact State.finishPurged_writes _
  · exact State.Writes.none _

/-! ### Heads (R113, R116, R117, R132) -/

theorem State.requestRollover_writes (s : State) (a : AssocId) (p : Phase) : s.Writes (s.requestRollover a p) := by
  unfold State.requestRollover
  dsimp only
  split
  next k hk =>
    split
    next h =>
      split
      next hold =>
        exact (State.Write.rollIngress a (slotIs_iff.2 ⟨k, hk, h.2.1⟩) (Option.isNone_iff_eq_none.1 hold)).writes
      next => exact State.setRecord_writes s a (.book _ rfl rfl rfl rfl id)
    next => exact State.Writes.none s
  next => exact State.Writes.none s

theorem State.requestRollover_path (s : State) (a : AssocId) (p : Phase) (d : Dir) (n : LinkId) :
    (s.requestRollover a p).path d n = s.path d n := by
  unfold State.requestRollover State.rollIngress
  dsimp only
  split
  · split
    · split
      · split <;> simp
      · simp
    · rfl
  · rfl

theorem State.consumeCover_writes (s : State) (n : LinkId) (a : AssocId) (e : Entry) {rest : List Entry}
    (hq : (s.path .ingress n).queue = e :: rest) (h : e.atRest = true) : s.Writes (s.consumeCover n a e) := by
  unfold State.consumeCover
  generalize hs1 : s.popHead .ingress n = s1
  have h1 : s.Writes s1 := hs1 ▸ s.popHead_writes .ingress n hq h
  dsimp only
  refine Relation.ReflTransGen.trans ?_ (State.freeCells_writes _ _ _ _)
  refine Relation.ReflTransGen.trans ?_ (State.setRecord_writes _ a (.book _ rfl rfl rfl rfl id))
  exact h1.trans (State.setPath_writes s1 .ingress n _ (sameRefs.refl _))

theorem State.handOver_writes (s : State) (n : LinkId) (e : Entry) (frame : Bytes) {rest : List Entry}
    (hq : (s.path .ingress n).queue = e :: rest) (h : e.atRest = true) : s.Writes (s.handOver n e frame) :=
  State.setQueue_writes s .ingress n _ (by rw [hq]; exact sameRefs.cons h rfl _)

theorem State.deliver_writes (s : State) (n : LinkId) (a : AssocId) (e : Entry) {rest : List Entry}
    (hq : (s.path .ingress n).queue = e :: rest) (h : e.atRest = true) : s.Writes (s.deliver n a e) := by
  unfold State.deliver
  split
  · exact s.dropHead_writes .ingress n _ hq h
  · split
    · exact s.consumeCover_writes n a e hq h
    · split
      · exact s.handOver_writes n e _ hq h
      · exact s.dropHead_writes .ingress n _ hq h

theorem State.releaseHead_writes (s : State) (n : LinkId) : s.Writes (s.releaseHead n) := by
  unfold State.releaseHead
  split
  next => exact State.Writes.none s
  next e rest hq =>
    split
    next hv =>
      have hrest : e.atRest = true := Entry.atRest_of_verified hv
      split
      next a p pn _ _ _ =>
        split
        next => exact State.Writes.none s
        next k _ =>
          split
          next => exact s.dropHead_writes .ingress n _ hq hrest
          next =>
            have haccept : s.Writes (s.setRecord a ((s.record a).acceptPn p pn)) :=
              State.setRecord_writes s a (.mapKey p _ fun k => ⟨rfl, rfl, rfl⟩)
            refine (haccept.trans (State.requestRollover_writes _ a p)).trans (State.deliver_writes _ n a e (rest := rest) ?_ hrest)
            rw [State.requestRollover_path]
            exact hq
      next => exact State.Writes.none s
    next => exact State.Writes.none s

theorem State.settleHeads_writes (d : Dir) (n : LinkId) (k : Nat) (s : State) : s.Writes (State.settleHeads d n k s) := by
  induction k generalizing s with
  | zero => exact State.Writes.none s
  | succ k ih =>
    unfold State.settleHeads
    split
    next => exact State.Writes.none s
    next e rest hq =>
      split
      next why he => exact (s.popHead_writes d n hq (by simp [Entry.atRest, he])).trans (ih _)
      next he =>
        split
        · exact State.Writes.none s
        · exact (s.dropHead_writes d n _ hq (Entry.atRest_of_done he)).trans (ih _)
      next he =>
        split
        · exact State.Writes.none s
        · exact (s.releaseHead_writes n).trans (ih _)
      next => exact State.Writes.none s

theorem State.settle_writes (s : State) (d : Dir) (n : LinkId) : s.Writes (s.settle d n) := State.settleHeads_writes d n _ s

theorem State.finish_writes (s : State) (d : Dir) (n : LinkId) : s.Writes (s.finish d n) :=
  (s.settle_writes d n).trans (State.pump_writes _)

end Sys2Proof.Machine
end

section
/-! SUPPORT. The commands of traffic and of the Store as sequences of writes: holds, grace timers, dispatch, classification, cover,
ports and purges. -/

namespace Sys2Proof.Machine

/-! ### Holds and grace timers (R81, R127, R137) -/

theorem State.expireHold_writes (s : State) (d : Dir) (a : AssocId) : s.Writes (s.expireHold d a) := by
  unfold State.expireHold
  dsimp only
  split
  · exact State.Writes.none s
  · exact (((s.withNow_writes _).trans (State.dropHeld_writes _ _ _ _ _)).trans (State.notify_writes _ _)).trans
      (State.finish_writes _ _ _)

theorem State.expireGrace_writes (s : State) (a : AssocId) : s.Writes (s.expireGrace a) := by
  unfold State.expireGrace
  dsimp only
  split
  next k hk =>
    split
    next t ht =>
      split
      next hgrace =>
        exact (((s.withNow_writes _).trans (State.setRecord_writes (s.withNow (max s.now t)) a (.retireOld k hk hgrace))).trans
          (State.storeActs_writes _ a)).trans (State.finish_writes _ _ _)
      next => exact State.Writes.none s
    next => exact State.Writes.none s
  next => exact State.Writes.none s

/-! ### The key usage decision (R65 to R79) -/

/-- R67, R80: a release never leaves the key LOADING. -/
theorem releaseHeld_key_ne_loading (a : AssocId) (r : Record) (q : List Entry) {k : Key} (hk : k.state ≠ .loading) :
    (releaseHeld a r q k).2.1.state ≠ .loading := by
  induction q generalizing k with
  | nil => exact hk
  | cons e rest ih =>
    have hcharge : (k.charge e.env.charge).state ≠ .loading := by
      unfold Key.charge
      dsimp only
      split
      · simp
      · exact hk
    unfold releaseHeld
    split
    next =>
      dsimp only
      refine ih ?_
      split
      · exact hcharge
      · exact hcharge
    next => exact ih hk

/-- R71: the record after an egress rollover. -/
theorem State.record_rollEgress (s : State) (a : AssocId) (cause : RollCause) {c k : Key} (hc : (s.record a).cur = some c)
    (hk : (s.record a).nxt = some k) :
    (s.rollEgress a cause).record a = { (s.record a).rollEgress c k with
      cur := some (releaseHeld a ((s.record a).rollEgress c k) (s.path .egress (s.record a).link).queue k.enterService).2.1 } := by
  unfold State.rollEgress
  simp only [hc, hk, State.record_notify]
  have hall : ∀ (vs : List Notice) (t : State), (t.notifyAll vs).record a = t.record a := by
    intro vs
    induction vs with
    | nil => exact fun t => rfl
    | cons v vs ih => exact fun t => (ih (t.notify v)).trans rfl
  rw [hall]
  simp [State.setQueue]

theorem State.softTest_writes (s : State) (a : AssocId) (pn : Nat) : s.Writes (s.softTest a pn) := by
  unfold State.softTest
  dsimp only
  split
  next k hk =>
    have hmove : ∀ f : Key → Key, (∀ k, (f k).state = k.state ∧ (f k).phase = k.phase ∧ (f k).inFlight = k.inFlight) →
        Record.Move (s.record a) { s.record a with cur := some (f k) } := fun f hf => by
      have := Record.Move.cur (r := s.record a) f hf
      rwa [hk] at this
    split
    next => exact State.Writes.none s
    next t ht =>
      split
      next h =>
        refine (State.setRecord_writes s a (hmove (fun k => { k with crossed := true }) fun _ => ⟨rfl, rfl, rfl⟩)).trans
          (State.Write.rollEgress a .soft ?_ ?_).writes
        · rw [State.record_setRecord_same]
          exact h.2.1
        · rw [State.record_setRecord_same]
          exact Option.isNone_iff_eq_none.1 h.2.2
      next =>
        exact (State.setRecord_writes s a (hmove (fun k => { k with crossed := true, soft := true }) fun _ => ⟨rfl, rfl, rfl⟩)).trans
          (State.notify_writes _ _)
  next => exact State.Writes.none s

theorem State.dispatchUnderCur_writes (s : State) (n : LinkId) (a : AssocId) (e : Entry) {k : Key} (hk : (s.record a).cur = some k)
    (hload : k.state ≠ .loading) (he : e.assoc = some a) : s.Writes (s.dispatchUnderCur n a e) :=
  (State.Write.charge n a e k hk hload he).writes.trans (State.softTest_writes _ _ _)

theorem State.holdEntry_writes (s : State) (n : LinkId) (a : AssocId) (e : Entry) : s.Writes (s.holdEntry n a e).1 := by
  unfold State.holdEntry
  dsimp only
  split
  · exact State.Writes.none s
  · split
    · exact State.Writes.none s
    · exact State.append_writes s .egress n _ rfl

theorem State.exhaust_writes (s : State) (a : AssocId) (b : Nat) : s.Writes (s.exhaust a b) := by
  unfold State.exhaust
  dsimp only
  split
  · split
    next h => exact (State.setRecord_writes s a (.exhaust h)).trans (State.notify_writes _ _)
    next => exact s.wantRollover_writes a
  · exact s.wantRollover_writes a

theorem State.cannotTake_writes (s : State) (n : LinkId) (a : AssocId) (e : Entry) (he : e.assoc = some a) :
    s.Writes (s.cannotTake n a e).1 := by
  unfold State.cannotTake
  dsimp only
  split
  next => exact s.exhaust_writes a _
  next =>
    split
    next h =>
      obtain ⟨-, hcur, hready, hold⟩ := (Record.canRoll_iff _).1 h
      obtain ⟨c, hc⟩ := Option.isSome_iff_exists.1 hcur
      obtain ⟨k, hk, -⟩ := slotIs_iff.1 hready
      refine (State.Write.rollEgress a .limit hready hold).writes.trans (State.dispatchUnderCur_writes _ n a e
        (k := (releaseHeld a ((s.record a).rollEgress c k) (s.path .egress (s.record a).link).queue k.enterService).2.1) ?_ ?_ he)
      · rw [s.record_rollEgress a .limit hc hk]
      · exact releaseHeld_key_ne_loading _ _ _ (by simp [Key.enterService])
    next => exact (s.wantRollover_writes a).trans (State.holdEntry_writes _ n a e)

theorem State.keyUse_writes (s : State) (n : LinkId) (a : AssocId) (e : Entry) (he : e.assoc = some a) :
    s.Writes (s.keyUse n a e).1 := by
  unfold State.keyUse
  dsimp only
  split
  next => exact s.holdEntry_writes n a e
  next =>
    split
    next h =>
      obtain ⟨-, husable⟩ := h
      unfold Record.usable at husable
      split at husable
      next k hk => exact s.dispatchUnderCur_writes n a e hk (by simp_all) he
      next => simp at husable
    next => exact s.cannotTake_writes n a e he

theorem State.countReduced_writes (s : State) (n : LinkId) (reduced : Bool) : s.Writes (s.countReduced n reduced) := by
  unfold State.countReduced
  split
  · exact State.setPath_writes s .egress n _ (sameRefs.refl _)
  · exact State.Writes.none s

theorem State.dispatch_writes (s : State) (n : LinkId) (a : AssocId) (kind : EntryKind) (len own : Nat) (x : Bool) (coverCode : Nat)
    (data : Bytes) : s.Writes (s.dispatch n a kind len own x coverCode data).1 := by
  unfold State.dispatch
  split
  next => exact State.dropFrame_writes s _ _ _ _
  next v reduced _ =>
    have hcount := s.countReduced_writes n reduced
    dsimp only
    split
    next => exact hcount.trans (State.dropFrame_writes _ _ _ _ _)
    next =>
      have huse := (hcount.trans (State.takeCells_writes _ .egress n (cellsFor v.envLen - own))).trans
        (State.keyUse_writes _ n a (newEntry kind a v (max own (cellsFor v.envLen)) coverCode data) rfl)
      split
      next => exact huse
      next => exact huse.trans (State.dropFrame_writes _ _ _ _ _)

/-! ### Classification (R89 to R92, R102 to R105) -/

theorem FlowTable.chain_setChain (t : FlowTable) (b b' : Fin 1024) (c : List FlowEntry) :
    (t.setChain b c).chain b' = if b' = b then c else t.chain b' := by
  by_cases h : b' = b
  · subst h
    simp [FlowTable.chain, FlowTable.setChain]
  · have hval : b.val ≠ b'.val := fun hv => h (Fin.ext hv.symm)
    simp [FlowTable.chain, FlowTable.setChain, h, hval]

/-- R98: a hit changes no entry's key and no chain's order. -/
theorem FlowTable.hit_sound {t : FlowTable} (h : t.sound) (k : FlowKey) : (t.hit k).sound := by
  intro b
  obtain ⟨hlen, hnodup, hbucket⟩ := h b
  unfold FlowTable.hit
  rw [FlowTable.chain_setChain]
  split
  next hb =>
    subst hb
    have hkey : FlowEntry.key ∘ (fun e => if e.key = k then { e with hits := sat32 e.hits 1 } else e) = FlowEntry.key := by
      funext e
      simp only [Function.comp]
      split <;> rfl
    refine ⟨by simpa using hlen, by simpa [hkey] using hnodup, fun e he => ?_⟩
    obtain ⟨e', he', rfl⟩ := List.mem_map.1 he
    have := hbucket e' he'
    split <;> exact this
  next => exact ⟨hlen, hnodup, hbucket⟩

theorem State.enterBypass_writes (s : State) (d : Dir) (n : LinkId) (f : Bytes) : s.Writes (s.enterBypass d n f) := by
  unfold State.enterBypass
  split
  · exact s.dropFrame_writes _ _ _ _
  · exact s.append_writes d n _ rfl

theorem State.egressBypass_writes (s : State) (n : LinkId) (f : Bytes) : s.Writes (s.egressBypass n f) := by
  unfold State.egressBypass
  split
  · exact s.enterBypass_writes _ n f
  · exact s.dropFrame_writes _ _ _ _

theorem State.egressEncrypt_writes (s : State) (n : LinkId) (a : AssocId) (f : Bytes) : s.Writes (s.egressEncrypt n a f) := by
  unfold State.egressEncrypt
  dsimp only
  split
  · exact s.dropFrame_writes _ _ _ _
  · split
    · exact s.dropFrame_writes _ _ _ _
    · exact s.dispatch_writes n a _ _ _ _ _ _

theorem State.egressVerdict_writes (s : State) (n : LinkId) (f : Bytes) (v : Verdict) (assoc : Option AssocId) :
    s.Writes (s.egressVerdict n f v assoc) := by
  unfold State.egressVerdict
  split
  · exact s.dropFrame_writes _ _ _ _
  · exact s.egressBypass_writes n f
  · exact s.egressEncrypt_writes n _ f
  · exact s.dropFrame_writes _ _ _ _

theorem State.egressFlow_writes (s : State) (n : LinkId) (f : Bytes) : s.Writes (s.egressFlow n f) := by
  unfold State.egressFlow
  split
  · split
    · exact (State.Write.flow _ fun h => FlowTable.hit_sound h _).writes.trans (State.egressVerdict_writes _ n f _ _)
    · exact State.Writes.none s
  · exact s.egressVerdict_writes n f _ _

theorem State.egressFrame_writes (s : State) (n : LinkId) (f : Bytes) : s.Writes (s.egressFrame n f) := by
  unfold State.egressFrame
  split
  · exact s.dropFrame_writes _ _ _ _
  · exact s.dropFrame_writes _ _ _ _
  · split
    · exact s.dropFrame_writes _ _ _ _
    · exact s.egressBypass_writes n f
    · exact s.egressFlow_writes n f

theorem State.classifyEgress_writes (s : State) (n : LinkId) : s.Writes (s.classifyEgress n) := by
  unfold State.classifyEgress
  dsimp only
  split
  · exact State.Writes.none s
  next f rest _ =>
    have htaken := s.setPath_writes .egress n { s.path .egress n with stored := rest } (sameRefs.refl _)
    exact (htaken.trans (State.egressFrame_writes _ n f)).trans (State.finish_writes _ _ _)

/-- R124: the key that a phase selects is the record's key of that phase, and is not LOADING. -/
theorem Record.keyOf_of_select {r : Record} {p : Phase} {k : Key} (h : r.select p = .key k) :
    r.keyOf p = some k ∧ k.state ≠ .loading := by
  unfold Record.select at h
  split at h
  next k' hk' =>
    split at h <;> simp_all
    split at h <;> simp at h
  next => simp at h

theorem State.holdIngress_writes (s : State) (n : LinkId) (a : AssocId) (e : Entry) : s.Writes (s.holdIngress n a e).1 := by
  unfold State.holdIngress
  dsimp only
  split
  · exact State.Writes.none s
  · split
    · exact State.Writes.none s
    · split
      · exact State.Writes.none s
      · exact State.append_writes s .ingress n _ rfl

theorem State.enterEnvelope_writes (s : State) (n : LinkId) (a : AssocId) (e : Entry) (he : e.assoc = some a) :
    s.Writes (s.enterEnvelope n a e).1 := by
  unfold State.enterEnvelope
  split
  next => exact State.Writes.none s
  next => exact s.holdIngress_writes n a e
  next k hk =>
    split
    next => exact State.Writes.none s
    next =>
      obtain ⟨hkey, hload⟩ := Record.keyOf_of_select hk
      exact (State.Write.enter n a e e.phase k hkey hload he).writes

theorem State.ingressEnvelope_writes (s : State) (n : LinkId) (x : Bool) (f : Bytes) : s.Writes (s.ingressEnvelope n x f) := by
  unfold State.ingressEnvelope
  dsimp only
  split
  · exact s.dropFrame_writes _ _ _ _
  · split
    · exact s.dropFrame_writes _ _ _ _
    next a _ =>
      split
      · exact s.dropFrame_writes _ _ _ _
      · split
        · exact s.dropFrame_writes _ _ _ _
        · have henter := s.enterEnvelope_writes n a (openEntry a x (headerOf x f) f) rfl
          split
          next s1 h =>
            rw [h] at henter
            exact henter
          next s1 why h =>
            rw [h] at henter
            exact henter.trans (State.dropFrame_writes _ _ _ _ _)

theorem State.ingressClear_writes (s : State) (n : LinkId) (f : Bytes) : s.Writes (s.ingressClear n f) := by
  unfold State.ingressClear
  dsimp only
  split
  · split
    · exact s.enterBypass_writes _ n f
    · exact s.dropFrame_writes _ _ _ _
    · exact s.dropFrame_writes _ _ _ _
  · exact s.dropFrame_writes _ _ _ _

theorem State.ingressFrame_writes (s : State) (n : LinkId) (f : Bytes) : s.Writes (s.ingressFrame n f) := by
  unfold State.ingressFrame
  split
  · exact s.dropFrame_writes _ _ _ _
  · split
    · exact s.ingressEnvelope_writes n _ f
    · exact s.ingressClear_writes n f

theorem State.classifyIngress_writes (s : State) (n : LinkId) : s.Writes (s.classifyIngress n) := by
  unfold State.classifyIngress
  dsimp only
  split
  · exact State.Writes.none s
  next f rest _ =>
    have htaken := s.setPath_writes .ingress n { s.path .ingress n with stored := rest } (sameRefs.refl _)
    exact (htaken.trans (State.ingressFrame_writes _ n f)).trans (State.finish_writes _ _ _)

/-! ### The cover generator (R156 to R159) -/

theorem State.stall_writes (s : State) (n : LinkId) (cause : StallCause) : s.Writes (s.stall n cause) := by
  unfold State.stall
  dsimp only
  split
  · exact State.Writes.none s
  · exact (s.setCover_writes n _).trans (State.notify_writes _ _)

theorem State.coverOutcome_writes (s : State) (n : LinkId) (why : Option Reason) : s.Writes (s.coverOutcome n why) := by
  unfold State.coverOutcome
  split
  · exact s.setCover_writes n _
  · split
    · exact s.stall_writes n _
    · exact State.Writes.none s

theorem State.formCover_writes (s : State) (n : LinkId) (a : AssocId) : s.Writes (s.formCover n a) := by
  unfold State.formCover State.countFormed
  have hcount := s.setPath_writes .egress n { s.path .egress n with
    counters := { (s.path .egress n).counters with coverFormed := sat48 (s.path .egress n).counters.coverFormed 1 } } (sameRefs.refl _)
  dsimp only
  split
  · exact (hcount.trans (State.countDrop_writes _ _ _ _ _)).trans (State.coverOutcome_writes _ _ _)
  · exact (hcount.trans (State.dispatch_writes _ _ _ _ _ _ _ _ _)).trans (State.coverOutcome_writes _ _ _)

theorem State.tryCover_writes (s : State) (n : LinkId) : s.Writes (s.tryCover n) := by
  unfold State.tryCover
  split
  · exact s.setCover_writes n _
  · split
    · exact s.stall_writes n _
    · exact s.formCover_writes n _

theorem State.coverExpiry_writes (s : State) (n : LinkId) : s.Writes (s.coverExpiry n) := by
  unfold State.coverExpiry State.scheduleCover
  split
  · exact (((s.withNow_writes _).trans (State.setCover_writes _ _ _)).trans (State.tryCover_writes _ _)).trans
      (State.finish_writes _ _ _)
  · exact State.Writes.none s

/-! ### Ports (R114, R115, R138 to R146) -/

theorem State.restartResend_writes (s : State) (d : Dir) (n : LinkId) : s.Writes (s.restartResend d n) := by
  unfold State.restartResend
  dsimp only
  split
  · exact s.setPath_writes d n _ (sameRefs.refl _)
  · exact State.Writes.none s

theorem State.sendPause_writes (s : State) (side : Side) (n : LinkId) : s.Writes (s.sendPause side n) := by
  unfold State.sendPause
  dsimp only
  split
  · exact State.Writes.none s
  · split
    · exact (s.setPort_writes _ _ _).trans (State.restartResend_writes _ _ _)
    · exact State.Writes.none s

theorem State.resendPause_writes (s : State) (d : Dir) (n : LinkId) : s.Writes (s.resendPause d n) := by
  unfold State.resendPause
  dsimp only
  split
  · split
    · exact ((s.withNow_writes _).trans (State.restartResend_writes _ _ _)).trans (State.askPause_writes _ _ _ _)
    · exact State.Writes.none s
  · exact State.Writes.none s

theorem State.startTransmit_writes (s : State) (d : Dir) (n : LinkId) : s.Writes (s.startTransmit d n) := by
  unfold State.startTransmit
  dsimp only
  split
  · exact State.Writes.none s
  · split
    · exact s.setPort_writes _ _ _
    · exact State.Writes.none s

theorem State.endTransmit_writes (s : State) (d : Dir) (n : LinkId) : s.Writes (s.endTransmit d n) := by
  unfold State.endTransmit
  dsimp only
  split
  · exact State.Writes.none s
  next e rest hq =>
    split
    next h =>
      have hleft : s.Writes ((s.setPort (sendSide d) n { s.port (sendSide d) n with sending := false }).setPath d n
          { (s.setPort (sendSide d) n { s.port (sendSide d) n with sending := false }).path d n with
            queue := rest
            counters := ((s.setPort (sendSide d) n { s.port (sendSide d) n with sending := false }).path d n).counters.sent e }) := by
        refine (s.setPort_writes _ _ _).trans (State.setPath_writes _ d n _ ?_)
        rw [State.path_setPort, hq]
        exact sameRefs.tail (Entry.atRest_of_done h.1) rest
      exact ((hleft.trans (State.countFrame_writes _ e)).trans (State.freeCells_writes _ _ _ _)).trans (State.finish_writes _ _ _)
    next => exact State.Writes.none s

theorem State.endPause_writes (s : State) (side : Side) (n : LinkId) : s.Writes (s.endPause side n) :=
  (s.setPort_writes _ _ _).trans (State.startTransmit_writes _ _ _)

theorem State.honourPause_writes (s : State) (side : Side) (n : LinkId) (q : Nat) : s.Writes (s.honourPause side n q) := by
  unfold State.honourPause
  split
  · split
    · exact s.endPause_writes side n
    · exact State.Writes.none s
  · exact s.setPort_writes _ _ _

theorem State.store_writes (s : State) (d : Dir) (n : LinkId) (f : Bytes) : s.Writes (s.store d n f) := by
  unfold State.store
  dsimp only
  split
  · exact s.setPath_writes d n _ (sameRefs.refl _)
  · exact (s.setPath_writes d n { s.path d n with
      stored := (s.path d n).stored ++ [f]
      counters := { (s.path d n).counters with framesIn := sat48 (s.path d n).counters.framesIn 1 } } (sameRefs.refl _)).trans
      (State.takeCells_writes _ _ _ _)

theorem State.arrive_writes (s : State) (side : Side) (n : LinkId) (f : Bytes) : s.Writes (s.arrive side n f) := by
  unfold State.arrive
  dsimp only
  split
  · split
    · exact s.countDrop_writes _ _ _ _
    · split
      · exact s.countDrop_writes _ _ _ _
      · split
        · exact s.countDrop_writes _ _ _ _
        · split
          · split
            · exact s.honourPause_writes _ _ _
            · exact State.Writes.none s
          · exact s.store_writes _ _ _
  · exact State.Writes.none s

theorem State.portUp_writes (s : State) (side : Side) (n : LinkId) : s.Writes (s.portUp side n) := by
  unfold State.portUp
  dsimp only
  refine Relation.ReflTransGen.trans ?_ (State.notify_writes _ _)
  split
  · exact (s.setPort_writes _ _ _).trans (State.restartResend_writes _ _ _)
  · exact s.setPort_writes _ _ _

theorem State.signalAppears_writes (s : State) (side : Side) (n : LinkId) : s.Writes (s.signalAppears side n) := by
  unfold State.signalAppears
  dsimp only
  have hsignal := s.setPort_writes side n { s.port side n with signal := true }
  split
  · exact (hsignal.trans (State.portUp_writes _ _ _)).trans (State.pump_writes _)
  · exact hsignal

theorem State.signalLost_writes (s : State) (side : Side) (n : LinkId) (receiving : Bool) : s.Writes (s.signalLost side n receiving) := by
  unfold State.signalLost
  dsimp only
  split
  · refine (Relation.ReflTransGen.trans ?_ (State.notify_writes _ _)).trans (State.finish_writes _ _ _)
    split
    · exact (s.setPort_writes _ _ _).trans (State.countDrop_writes _ _ _ _ _)
    · exact s.setPort_writes _ _ _
  · exact s.setPort_writes _ _ _

theorem State.raisePort_writes (s : State) (side : Side) (n : LinkId) : s.Writes (s.raisePort side n) := by
  unfold State.raisePort
  split
  · exact s.portUp_writes side n
  · exact State.Writes.none s

theorem State.raisePorts_writes (s : State) : s.Writes s.raisePorts := by
  have hfold : ∀ (side : Side) (ns : List LinkId) (t : State), t.Writes (ns.foldl (fun s n => s.raisePort side n) t) := by
    intro side ns
    induction ns with
    | nil => exact State.Writes.none
    | cons n ns ih => exact fun t => (t.raisePort_writes side n).trans (ih _)
  exact (hfold .rack _ s).trans (hfold .campus _ _)

/-! ### The visits of a purge (R53 to R56) -/

theorem State.withPurge_writes (s : State) (p : Purge)
    (h : p.active = true → s.bank.purge.any Purge.active = true ∨ s.bank.install = none) :
    s.Writes (s.withBank { s.bank with purge := some p }) :=
  (State.Write.bank (s := s) { s.bank with purge := some p } rfl (.inl rfl) h).writes

theorem State.purgeTake_writes (s : State) (p : Purge) (hp : s.bank.purge = some p) (hactive : p.active = true) :
    s.Writes (s.purgeTake p) := by
  unfold State.purgeTake
  dsimp only
  refine Relation.ReflTransGen.trans ?_ (State.finish_writes _ _ _)
  refine Relation.ReflTransGen.trans ?_ (State.storeActs_writes _ _)
  generalize hs1 : s.dropEntries (s.record (bankSlot p.bank p.cursor)).dir (s.record (bankSlot p.bank p.cursor)).link
    (Entry.isHeldOf (bankSlot p.bank p.cursor)) .purged = s1
  have hdrop : s.Writes s1 := hs1 ▸ s.dropHeld_writes _ _ _ _
  have hbank : s1.bank = s.bank := hs1 ▸ s.bank_dropEntries _ _ _ _
  have hrecord : s1.record (bankSlot p.bank p.cursor) = s.record (bankSlot p.bank p.cursor) := hs1 ▸ s.record_dropEntries _ _ _ _ _
  have hany : s1.bank.purge.any Purge.active = true := by simp [hbank, hp, hactive]
  have hshut := (State.Write.shut (bankSlot p.bank p.cursor) .purging (.inr hany) (.inr rfl)).writes
  rw [hrecord] at hshut
  exact (hdrop.trans hshut).trans (State.withPurge_writes _ _ fun _ => .inl hany)

theorem State.purgeVisit_writes (s : State) : s.Writes s.purgeVisit := by
  unfold State.purgeVisit
  dsimp only
  split
  next p hp =>
    split
    next h =>
      have hany : s.bank.purge.any Purge.active = true := by simp [hp, h.1]
      split
      · exact (s.boundary_writes p (.inl hany)).trans (State.pump_writes _)
      · split
        · exact (s.boundary_writes _ (.inl hany)).trans (State.pump_writes _)
        · exact s.purgeTake_writes p hp h.1
    next => exact State.Writes.none s
  next => exact State.Writes.none s

theorem State.purgeRecordFinished_writes (s : State) : s.Writes s.purgeRecordFinished := by
  unfold State.purgeRecordFinished
  split
  · exact s.finishPurged_writes.trans (State.finish_writes _ _ _)
  · exact State.Writes.none s

end Sys2Proof.Machine
end

section
/-! SUPPORT. What one write, and so every sequence of writes, leaves of the control unit, the parameters, the flow table and the Store's
keys, and what it leaves unchanged. -/

namespace Sys2Proof.Machine

/-! ### Notices and rollovers as writes of fields -/

theorem State.notifyAll_eq (s : State) (vs : List Notice) : s.notifyAll vs = s.withControl (vs.foldl Control.notify s.control) := by
  induction vs generalizing s with
  | nil => rfl
  | cons v vs ih => exact ih (s.notify v)

/-- R71: the egress rollover as one write of the record, one of the queue and one of the control unit. -/
theorem State.rollEgress_eq (s : State) (a : AssocId) (cause : RollCause) {c k : Key} (hc : (s.record a).cur = some c)
    (hk : (s.record a).nxt = some k) {q : List Entry} {k1 : Key} {notes : List Notice} {count : Nat}
    (hrel : releaseHeld a ((s.record a).rollEgress c k) (s.path .egress (s.record a).link).queue k.enterService = (q, k1, notes, count)) :
    s.rollEgress a cause = ((s.setRecord a { (s.record a).rollEgress c k with cur := some k1 }).setQueue .egress (s.record a).link q).withControl
      ((notes.foldl Control.notify s.control).notify (.rolledOver a .egress (s.record a).link (((s.record a).generation + 1) % 256) k.phase
        k.check c.phase count cause)) := by
  unfold State.rollEgress
  simp only [hc, hk, hrel, State.notifyAll_eq]
  rfl

theorem State.rollEgress_of_none (s : State) (a : AssocId) (cause : RollCause)
    (h : (s.record a).cur = none ∨ (s.record a).nxt = none) : s.rollEgress a cause = s := by
  unfold State.rollEgress
  dsimp only
  obtain h | h := h
  · rw [h]
  · rw [h]; split <;> simp_all

theorem State.rollIngress_eq (s : State) (a : AssocId) {c k : Key} (hc : (s.record a).cur = some c) (hk : (s.record a).nxt = some k) :
    s.rollIngress a = (s.setRecord a ((s.record a).rollIngress c k
        (s.now + (s.params (s.record a).link).graceInterval * Config.msTicks))).notify
      (.rolledOver a .ingress (s.record a).link (((s.record a).generation + 1) % 256) k.phase k.check c.phase 0 .peer) := by
  unfold State.rollIngress
  simp only [hc, hk]
  rfl

theorem State.rollIngress_of_none (s : State) (a : AssocId) (h : (s.record a).cur = none ∨ (s.record a).nxt = none) :
    s.rollIngress a = s := by
  unfold State.rollIngress
  dsimp only
  obtain h | h := h
  · rw [h]
  · rw [h]; split <;> simp_all

/-- R66 to R68: the charge as one write of the record and one of the queue. -/
theorem State.takeUnderCur_eq (s : State) (n : LinkId) (a : AssocId) (e : Entry) {k : Key} (hk : (s.record a).cur = some k) :
    s.takeUnderCur n a e = (s.setRecord a { s.record a with cur := some (k.charge e.env.charge) }).append .egress n
      { e with state := .waiting, pn := some k.n, key := some k.phase } := by
  simp only [State.takeUnderCur, hk]

/-! ### The control unit under notices and the transmitter (R163, R164, R169, R170) -/

/-- What notices and the transmitter's choices leave of the control unit: the requests and the execution, and no list longer beyond its
bound. -/
structure Control.Quiet (c c' : Control) : Prop where
  requests : c'.requests = c.requests
  exec : c'.exec = c.exec
  executed : c'.executed ≤ c.executed
  refusals : c'.refusals ≤ c.refusals
  notices : c.notices.length ≤ Config.noticePlaces → c'.notices.length ≤ Config.noticePlaces

theorem Control.Quiet.refl (c : Control) : c.Quiet c := ⟨rfl, rfl, le_rfl, le_rfl, id⟩

theorem Control.Quiet.trans {c c' c'' : Control} (h : c.Quiet c') (h' : c'.Quiet c'') : c.Quiet c'' :=
  ⟨h'.requests.trans h.requests, h'.exec.trans h.exec, h'.executed.trans h.executed, h'.refusals.trans h.refusals,
    fun hn => h'.notices (h.notices hn)⟩

theorem Control.quiet_notify (c : Control) (v : Notice) : c.Quiet (c.notify v) := by
  unfold Control.notify
  split
  next h => exact ⟨rfl, rfl, le_rfl, le_rfl, fun _ => by simpa using h⟩
  next => exact ⟨rfl, rfl, le_rfl, le_rfl, id⟩

theorem Control.quiet_notifyAll (c : Control) (vs : List Notice) : c.Quiet (vs.foldl Control.notify c) := by
  induction vs generalizing c with
  | nil => exact .refl c
  | cons v vs ih => exact (c.quiet_notify v).trans (ih _)

theorem Control.quiet_pump (c : Control) : c.Quiet c.pump := by
  unfold Control.pump
  split
  next => exact .refl c
  next =>
    split
    next r rest hr =>
      refine ⟨rfl, rfl, ?_, ?_, id⟩
      · simp only [Control.executed, hr, List.filter_cons]
        split <;> simp
      · simp only [Control.refusals, hr, List.filter_cons]
        split <;> simp
    next =>
      split
      next v rest hv => exact ⟨rfl, rfl, le_rfl, le_rfl, fun h => by simp only [hv, List.length_cons] at h; simp only; omega⟩
      next => exact .refl c

/-! ### What one write does to the control unit and the bank operation unit -/

/-- A write leaves the queue of commands, the device, the lanes and the provisioning area. Of the control unit and the bank operation
unit it leaves the requests, the execution, the install and the stop (or there is no stop more), but where a pending stop takes effect and is
answered. -/
theorem State.Write.frame {s t : State} (h : s.Write t) :
    (t.pending = s.pending ∧ t.device = s.device ∧ t.lanes = s.lanes ∧ t.lastGrant = s.lastGrant ∧ t.prov = s.prov
      ∧ t.bank.install = s.bank.install)
    ∧ (t.bank.purge.any Purge.active = true → s.bank.purge.any Purge.active = true ∨ s.bank.install = none)
    ∧ ((s.control.Quiet t.control ∧ (t.bank.stop = s.bank.stop ∨ t.bank.stop = .none))
      ∨ (s.bank.stop ≠ .none ∧ t.bank.stop = .none ∧ ∃ (ns : List Notice) (st : Status) (fl : Flags) (body : Bytes),
          t.control = (ns.foldl Control.notify s.control).answer st fl 0 body)) := by
  cases h with
  | now v => exact ⟨⟨rfl, rfl, rfl, rfl, rfl, rfl⟩, .inl, .inl ⟨.refl _, .inl rfl⟩⟩
  | notify v => exact ⟨⟨rfl, rfl, rfl, rfl, rfl, rfl⟩, .inl, .inl ⟨s.control.quiet_notify v, .inl rfl⟩⟩
  | pump => exact ⟨⟨rfl, rfl, rfl, rfl, rfl, rfl⟩, .inl, .inl ⟨s.control.quiet_pump, .inl rfl⟩⟩
  | clearLost => exact ⟨⟨rfl, rfl, rfl, rfl, rfl, rfl⟩, .inl, .inl ⟨⟨rfl, rfl, le_rfl, le_rfl, id⟩, .inl rfl⟩⟩
  | flow v _ => exact ⟨⟨rfl, rfl, rfl, rfl, rfl, rfl⟩, .inl, .inl ⟨.refl _, .inl rfl⟩⟩
  | rules v => exact ⟨⟨rfl, rfl, rfl, rfl, rfl, rfl⟩, .inl, .inl ⟨.refl _, .inl rfl⟩⟩
  | link n l _ _ _ => exact ⟨⟨rfl, rfl, rfl, rfl, rfl, rfl⟩, .inl, .inl ⟨.refl _, .inl rfl⟩⟩
  | record a r _ => exact ⟨⟨rfl, rfl, rfl, rfl, rfl, rfl⟩, .inl, .inl ⟨.refl _, .inl rfl⟩⟩
  | shut a st _ _ => exact ⟨⟨rfl, rfl, rfl, rfl, rfl, rfl⟩, .inl, .inl ⟨.refl _, .inl rfl⟩⟩
  | charge n a e k hk _ _ =>
    rw [s.takeUnderCur_eq n a e hk]
    exact ⟨⟨rfl, rfl, rfl, rfl, rfl, rfl⟩, .inl, .inl ⟨.refl _, .inl rfl⟩⟩
  | enter n a e p k _ _ _ => exact ⟨⟨rfl, rfl, rfl, rfl, rfl, rfl⟩, .inl, .inl ⟨.refl _, .inl rfl⟩⟩
  | rollEgress a cause hready _ =>
    obtain ⟨k, hk, -⟩ := slotIs_iff.1 hready
    rcases hc : (s.record a).cur with _ | c
    · rw [s.rollEgress_of_none a cause (.inl hc)]
      exact ⟨⟨rfl, rfl, rfl, rfl, rfl, rfl⟩, .inl, .inl ⟨.refl _, .inl rfl⟩⟩
    · rw [s.rollEgress_eq a cause hc hk rfl]
      exact ⟨⟨rfl, rfl, rfl, rfl, rfl, rfl⟩, .inl, .inl ⟨(s.control.quiet_notifyAll _).trans (Control.quiet_notify _ _), .inl rfl⟩⟩
  | rollIngress a hready _ =>
    obtain ⟨k, hk, -⟩ := slotIs_iff.1 hready
    rcases hc : (s.record a).cur with _ | c
    · rw [s.rollIngress_of_none a (.inl hc)]
      exact ⟨⟨rfl, rfl, rfl, rfl, rfl, rfl⟩, .inl, .inl ⟨.refl _, .inl rfl⟩⟩
    · rw [s.rollIngress_eq a hc hk]
      exact ⟨⟨rfl, rfl, rfl, rfl, rfl, rfl⟩, .inl, .inl ⟨Control.quiet_notify _ _, .inl rfl⟩⟩
  | empty a after _ _ => exact ⟨⟨rfl, rfl, rfl, rfl, rfl, rfl⟩, .inl, .inl ⟨.refl _, .inl rfl⟩⟩
  | bank v hi hs hp => exact ⟨⟨rfl, rfl, rfl, rfl, rfl, hi⟩, hp, .inl ⟨.refl _, hs.imp_right And.left⟩⟩
  | stop v ns st body h0 hi hs hp =>
    rw [State.notifyAll_eq]
    exact ⟨⟨rfl, rfl, rfl, rfl, rfl, hi⟩, fun h => .inl (hp h), .inr ⟨h0, hs, ns, st, _, body, rfl⟩⟩

/-! ### The bounds of the control unit (R163, R164, R170) -/

theorem Control.executed_answer_le (c : Control) (st : Status) (fl : Flags) (k : Nat) (body : Bytes) :
    (c.answer st fl k body).executed ≤ c.executed + 1 := by
  unfold Control.answer
  split
  · omega
  · simp [Control.executed]

theorem Control.refusals_answer (c : Control) (st : Status) (fl : Flags) (k : Nat) (body : Bytes) :
    (c.answer st fl k body).refusals = c.refusals := by
  unfold Control.answer
  split
  · rfl
  · simp [Control.refusals]

theorem Control.notices_answer (c : Control) (st : Status) (fl : Flags) (k : Nat) (body : Bytes) :
    (c.answer st fl k body).notices = c.notices := by
  unfold Control.answer
  split <;> rfl

theorem Control.requests_answer_length_le (c : Control) (st : Status) (fl : Flags) (k : Nat) (body : Bytes) :
    (c.answer st fl k body).requests.length ≤ c.requests.length := by
  unfold Control.answer
  split
  next h => exact le_rfl
  next h => simp [h]

theorem Control.exec_answer (c : Control) (st : Status) (fl : Flags) (k : Nat) (body : Bytes) (h : c.requests ≠ []) :
    (c.answer st fl k body).exec = .idle := by
  unfold Control.answer
  split
  · contradiction
  · rfl

/-- R164: a request that no reply precedes is answered while nothing else waits for it: the control unit is idle again. -/
theorem State.controlSound_answered {s t : State} {st : Status} {fl : Flags} {k : Nat} {body : Bytes}
    (hc : t.control = s.control.answer st fl k body)
    (hreq : s.control.requests.length ≤ Config.requestPlaces) (hnot : s.control.notices.length ≤ Config.noticePlaces)
    (href : s.control.refusals ≤ Config.refusalPlaces) (hex : s.control.executed = 0) (hne : s.control.requests ≠ [])
    (hi : t.bank.install = none) (hs : t.bank.stop = .none) (hp : t.prov.programming = none) : t.controlSound := by
  have hexec := s.control.exec_answer st fl k body hne
  refine ⟨?_, ?_, ?_, ?_, ?_, ?_, ?_, ?_⟩
  · rw [hc]; exact (Control.requests_answer_length_le _ _ _ _ _).trans hreq
  · rw [hc, Control.notices_answer]; exact hnot
  · rw [hc, Control.refusals_answer]; exact href
  · rw [hc]
    have := s.control.executed_answer_le st fl k body
    omega
  · rw [hc, hexec]; exact fun h => absurd rfl h
  · simp [hi]
  · exact fun h => absurd hs h
  · simp [hp]

theorem State.controlSound_of_quiet {s t : State} (h : s.controlSound) (hq : s.control.Quiet t.control)
    (hi : t.bank.install = s.bank.install) (hs : t.bank.stop = s.bank.stop ∨ t.bank.stop = .none) (hp : t.prov = s.prov) :
    t.controlSound := by
  obtain ⟨h1, h2, h3, h4, h5, h6, h7, h8⟩ := h
  have hexecuted := hq.executed
  refine ⟨hq.requests ▸ h1, hq.notices h2, hq.refusals.trans h3, hexecuted.trans h4, ?_, ?_, ?_, ?_⟩
  · rw [hq.exec, hq.requests]
    intro hne
    obtain ⟨hz, hr⟩ := h5 hne
    exact ⟨by omega, hr⟩
  · rw [hi, hq.exec]; exact h6
  · rw [hq.exec]
    obtain hs | hs := hs
    · rw [hs]; exact h7
    · exact fun h => absurd hs h
  · rw [hp, hq.exec]; exact h8

/-- R163, R164, R170: a write keeps the control unit within its bounds. -/
theorem State.Write.controlSound {s t : State} (hs : s.controlSound) (h : s.Write t) : t.controlSound := by
  obtain ⟨⟨-, -, -, -, hprov, hinstall⟩, -, ⟨hquiet, hstop⟩ | ⟨hpend, hstop, ns, st, fl, body, hc⟩⟩ := h.frame
  · exact State.controlSound_of_quiet hs hquiet hinstall hstop hprov
  · obtain ⟨h1, h2, h3, h4, h5, h6, h7, h8⟩ := hs
    have hexec := h7 hpend
    have hq := s.control.quiet_notifyAll ns
    obtain ⟨hz, hne⟩ := h5 (by simp [hexec])
    have hzero : (ns.foldl Control.notify s.control).executed = 0 := Nat.le_zero.1 (hz ▸ hq.executed)
    refine State.controlSound_answered (s := s.withControl (ns.foldl Control.notify s.control)) hc (hq.requests ▸ h1) (hq.notices h2)
      (hq.refusals.trans h3) hzero (hq.requests ▸ hne) ?_ hstop ?_
    · rw [hinstall]
      rcases hi : s.bank.install with _ | i
      · rfl
      · simp [hi, hexec] at h6
    · rw [hprov]
      rcases hp : s.prov.programming with _ | p
      · rfl
      · simp [hp, hexec] at h8

theorem State.Writes.controlSound {s t : State} (h : s.Writes t) (hs : s.controlSound) : t.controlSound :=
  h.keep (fun _ _ h0 hw => hw.controlSound h0) hs

/-! ### The flow table (R96) -/

theorem State.Write.flowSound {s t : State} (hs : s.flow.sound) (h : s.Write t) : t.flow.sound := by
  cases h with
  | flow v hv => exact hv hs
  | charge n a e k hk _ _ => rwa [s.takeUnderCur_eq n a e hk]
  | rollEgress a cause hready _ =>
    obtain ⟨k, hk, -⟩ := slotIs_iff.1 hready
    rcases hc : (s.record a).cur with _ | c
    · rwa [s.rollEgress_of_none a cause (.inl hc)]
    · rwa [s.rollEgress_eq a cause hc hk rfl]
  | rollIngress a hready _ =>
    obtain ⟨k, hk, -⟩ := slotIs_iff.1 hready
    rcases hc : (s.record a).cur with _ | c
    · rwa [s.rollIngress_of_none a (.inl hc)]
    · rwa [s.rollIngress_eq a hc hk]
  | stop v ns st body _ _ _ _ => rwa [State.notifyAll_eq]
  | _ => exact hs

theorem State.Writes.flowSound {s t : State} (h : s.Writes t) (hs : s.flow.sound) : t.flow.sound :=
  h.keep (fun _ _ h0 hw => hw.flowSound h0) hs

/-! ### What one write does to the records -/

/-- The records after a write: unchanged but one, which a `Move`, a shutting, a charge, an entry, a rollover or an emptying has changed. -/
inductive Record.Moved (s : State) (r : Record) : Record → Prop where
  | same : Moved s r r
  | move (r' : Record) : Record.Move r r' → Moved s r r'
  | shut (st : RecState) : s.control.exec ≠ .installing ∨ s.bank.purge.any Purge.active = true → st = .draining ∨ st = .purging →
      Moved s r { r with state := st, wanted := false, old := r.old.map fun k => { k with graceAt := none } }
  | charge (k : Key) (b : Nat) : r.cur = some k → k.state ≠ .loading → Moved s r { r with cur := some (k.charge b) }
  | hold (p : Phase) (k : Key) : r.keyOf p = some k → k.state ≠ .loading → Moved s r (r.mapKey p Key.hold)
  | rollEgress (c k k1 : Key) : r.cur = some c → r.nxt = some k → k.state = .ready → r.old = none → k1.phase = k.phase →
      k1.state ≠ .loading → Moved s r { r.rollEgress c k with cur := some k1 }
  | rollIngress (c k : Key) (deadline : Nat) : r.cur = some c → r.nxt = some k → k.state = .ready → r.old = none →
      Moved s r (r.rollIngress c k deadline)
  | empty (after : RecState) : ((r.state = .draining ∨ r.state = .purging) ∧ r.drained = true) ∨ r.state = .barred →
      after = .empty ∨ after = .barred → Moved s r { Record.blank r.generation with state := after }

theorem releaseHeld_key_phase (a : AssocId) (r : Record) (q : List Entry) (k : Key) : (releaseHeld a r q k).2.1.phase = k.phase := by
  induction q generalizing k with
  | nil => rfl
  | cons e rest ih =>
    unfold releaseHeld
    split
    next =>
      dsimp only
      rw [ih]
      split <;> rfl
    next => exact ih k

theorem State.moved_setRecord {s t : State} {a : AssocId} {r : Record} (h : Record.Moved s (s.record a) r)
    (ht : ∀ b, t.record b = (s.setRecord a r).record b) (b : AssocId) : Record.Moved s (s.record b) (t.record b) := by
  rw [ht]
  by_cases hb : b = a
  · subst hb
    rwa [State.record_setRecord_same]
  · rw [State.record_setRecord_ne _ _ hb]
    exact .same

theorem State.Write.moved {s t : State} (h : s.Write t) (b : AssocId) : Record.Moved s (s.record b) (t.record b) := by
  cases h with
  | record a r hm => exact State.moved_setRecord (.move r hm) (fun _ => rfl) b
  | shut a st hi hst => exact State.moved_setRecord (.shut st hi hst) (fun _ => rfl) b
  | charge n a e k hk hload _ =>
    rw [s.takeUnderCur_eq n a e hk]
    exact State.moved_setRecord (.charge k _ hk hload) (fun _ => rfl) b
  | enter n a e p k hk hload _ => exact State.moved_setRecord (.hold p k hk hload) (fun _ => rfl) b
  | rollEgress a cause hready hold =>
    obtain ⟨k, hk, hks⟩ := slotIs_iff.1 hready
    rcases hc : (s.record a).cur with _ | c
    · rw [s.rollEgress_of_none a cause (.inl hc)]
      exact .same
    · rw [s.rollEgress_eq a cause hc hk rfl]
      exact State.moved_setRecord (.rollEgress c k _ hc hk hks hold (releaseHeld_key_phase a _ _ k.enterService)
        (releaseHeld_key_ne_loading _ _ _ (k := k.enterService) (by simp [Key.enterService]))) (fun _ => rfl) b
  | rollIngress a hready hold =>
    obtain ⟨k, hk, hks⟩ := slotIs_iff.1 hready
    rcases hc : (s.record a).cur with _ | c
    · rw [s.rollIngress_of_none a (.inl hc)]
      exact .same
    · rw [s.rollIngress_eq a hc hk]
      exact State.moved_setRecord (.rollIngress c k _ hc hk hks hold) (fun _ => rfl) b
  | empty a after hst hafter => exact State.moved_setRecord (.empty after hst hafter) (fun _ => rfl) b
  | stop v ns st body _ _ _ _ =>
    rw [State.notifyAll_eq]
    exact .same
  | _ => exact .same

/-! ### Parameters (Tables 2-2 and 9-1) -/

theorem AssocParams.default_inRange : AssocParams.default.inRange := by decide

theorem Record.Moved.params {s : State} {r r' : Record} (h : Record.Moved s r r') (hr : r.params.inRange) : r'.params.inRange := by
  cases h with
  | move r' hm =>
    cases hm with
    | book r' _ _ _ _ hp => exact hp hr
    | opened d n channel p _ hp => exact hp
    | _ => exact hr
  | empty after _ _ => exact AssocParams.default_inRange
  | _ => exact hr

theorem State.Write.linkParams {s t : State} (hs : ∀ n, (s.params n).inRange) (h : s.Write t) (n : LinkId) : (t.params n).inRange := by
  cases h with
  | link m l _ _ hl =>
    by_cases hn : n = m
    · subst hn
      simpa [State.params] using hl (hs n)
    · simpa [State.params, State.link_setLink_ne _ _ hn] using hs n
  | charge m a e k hk _ _ =>
    rw [s.takeUnderCur_eq m a e hk]
    simpa [State.append, State.setQueue] using hs n
  | enter m a e p k _ _ _ => simpa [State.append, State.setQueue] using hs n
  | rollEgress a cause hready _ =>
    obtain ⟨k, hk, -⟩ := slotIs_iff.1 hready
    rcases hc : (s.record a).cur with _ | c
    · rw [s.rollEgress_of_none a cause (.inl hc)]
      exact hs n
    · rw [s.rollEgress_eq a cause hc hk rfl]
      simpa [State.setQueue] using hs n
  | rollIngress a hready _ =>
    obtain ⟨k, hk, -⟩ := slotIs_iff.1 hready
    rcases hc : (s.record a).cur with _ | c
    · rw [s.rollIngress_of_none a (.inl hc)]
      exact hs n
    · rw [s.rollIngress_eq a hc hk]
      exact hs n
  | empty a after _ _ =>
    have hsame : ((s.setRecord a { Record.blank (s.record a).generation with state := after }).unname a).params n = s.params n := by
      simp [State.unname, State.params, State.link, State.withLinks]
    rw [hsame]
    exact hs n
  | stop v ns st body _ _ _ _ =>
    rw [State.notifyAll_eq]
    exact hs n
  | _ => exact hs n

/-- R143, R153, Table 2-2: a write keeps every parameter in its range. -/
theorem State.Writes.paramsInRange {s t : State} (h : s.Writes t) (hs : s.paramsInRange) : t.paramsInRange :=
  h.keep (fun _ _ h0 hw => ⟨hw.linkParams h0.1, fun a => (hw.moved a).params (h0.2 a)⟩) hs

/-! ### The Store's keys (R26, R43, R47) -/

/-- R47: the target slot of an install, LOADING with phase `p`, in a record of the state it was taken in. -/
def Record.awaits (r : Record) (toNxt : Bool) (p : Phase) : Prop :=
  (if toNxt then r.nxt else r.cur).map (fun k => (k.state, k.phase)) = some (.loading, p)
    ∧ if toNxt then r.state = .live ∨ r.state = .exhausted else r.state = .opened

theorem State.installSound_iff (s : State) (i : Install) :
    s.installSound i ↔ s.control.exec = .installing ∧ s.bank.purge.any Purge.active = false
      ∧ (s.record i.index).awaits i.toNxt i.phase := by
  unfold State.installSound State.installSlot Record.awaits
  rcases i.toNxt <;> simp

/-- A record whose keys keep their states and phases keeps what its keys have to keep. -/
theorem Record.phases_eq (r : Record) :
    r.phases = r.cur.toList.map Key.phase ++ r.nxt.toList.map Key.phase ++ r.old.toList.map Key.phase := by
  unfold Record.phases
  rcases r.cur <;> rcases r.nxt <;> rcases r.old <;> rfl

theorem Record.keysSound_of_alike {r r' : Record} (h : r.keysSound) (hst : r'.state = r.state)
    (hc : r'.cur.map Key.phase = r.cur.map Key.phase) (hn : r'.nxt.map Key.phase = r.nxt.map Key.phase)
    (ho : r'.old.map Key.phase = r.old.map Key.phase) : r'.keysSound := by
  obtain ⟨h1, h2, h3⟩ := h
  have hl : ∀ x y : Option Key, x.map Key.phase = y.map Key.phase → x.toList.map Key.phase = y.toList.map Key.phase := by
    intro x y hxy
    rcases x <;> rcases y <;> simp_all
  have hz : ∀ x y : Option Key, x.map Key.phase = y.map Key.phase → y = none → x = none := by
    intro x y hxy hy
    rcases x <;> simp_all
  refine ⟨?_, fun h => ?_, fun h => ?_⟩
  · rw [Record.phases_eq, hl _ _ hc, hl _ _ hn, hl _ _ ho, ← Record.phases_eq]
    exact h1
  · obtain ⟨hn', ho'⟩ := h2 (hst ▸ h)
    exact ⟨hz _ _ hn hn', hz _ _ ho ho'⟩
  · obtain ⟨hc', hn', ho'⟩ := h3 (hst ▸ h)
    exact ⟨hz _ _ hc hc', hz _ _ hn hn', hz _ _ ho ho'⟩

theorem Key.map_phase_if {p : Phase} {f : Key → Key} (hf : ∀ k, (f k).phase = k.phase) (x : Option Key) :
    (x.map fun k => if k.phase = p then f k else k).map Key.phase = x.map Key.phase := by
  rcases x with _ | k
  · rfl
  · simp only [Option.map_some]
    split <;> simp [hf]

theorem Record.keysSound_mapKey {r : Record} (h : r.keysSound) (p : Phase) {f : Key → Key} (hf : ∀ k, (f k).phase = k.phase) :
    (r.mapKey p f).keysSound :=
  Record.keysSound_of_alike h rfl (Key.map_phase_if hf _) (Key.map_phase_if hf _)
    (Key.map_phase_if hf _)

theorem Record.awaits_mapKey {r : Record} (p : Phase) {f : Key → Key} (hf : ∀ k, (f k).phase = k.phase ∧ (f k).state = k.state)
    {toNxt : Bool} {ph : Phase} (h : r.awaits toNxt ph) : (r.mapKey p f).awaits toNxt ph := by
  obtain ⟨h1, h2⟩ := h
  refine ⟨?_, h2⟩
  have hmap : ∀ x : Option Key, (x.map fun k => if k.phase = p then f k else k).map (fun k => (k.state, k.phase))
      = x.map fun k => (k.state, k.phase) := by
    intro x
    rcases x with _ | k
    · rfl
    · simp only [Option.map_some]
      split <;> simp [hf]
  rw [← h1]
  cases toNxt
  · exact hmap _
  · exact hmap _

/-- R26: what a write does to a record keeps the phases of its keys distinct. -/
theorem Record.Moved.keysSound {s : State} {r r' : Record} (h : Record.Moved s r r') (hr : r.keysSound) : r'.keysSound := by
  cases h with
  | same => exact hr
  | move r' hm =>
    cases hm with
    | book r' hst hc hn ho _ => exact Record.keysSound_of_alike hr hst (by rw [hc]) (by rw [hn]) (by rw [ho])
    | mapKey p f hf => exact Record.keysSound_mapKey hr p fun k => (hf k).2.1
    | cur f hf =>
      refine Record.keysSound_of_alike hr rfl ?_ rfl rfl
      simp only [Option.map_map]
      exact congrArg (fun g => r.cur.map g) (funext fun k => (hf k).2.1)
    | exhaust hlive =>
      obtain ⟨h1, -, -⟩ := hr
      exact ⟨h1, by simp, by simp⟩
    | destroyOld k ho _ =>
      obtain ⟨h1, h2, h3⟩ := hr
      refine ⟨?_, fun h => ⟨(h2 h).1, rfl⟩, fun h => ⟨(h3 h).1, (h3 h).2.1, rfl⟩⟩
      rw [Record.phases_eq] at h1 ⊢
      exact (List.nodup_append.1 h1).1 |>.append (by simp) (by simp)
    | retireOld k ho _ => exact Record.keysSound_of_alike hr rfl rfl rfl (by simp [ho])
    | opened d n channel p _ _ => exact ⟨by simp [Record.phases, openedRecord, Record.blank], fun _ => ⟨rfl, rfl⟩, fun _ => ⟨rfl, rfl, rfl⟩⟩
  | shut st _ hst =>
    obtain ⟨h1, -, -⟩ := hr
    have hold : (r.old.map fun k => { k with graceAt := none }).toList.map Key.phase = r.old.toList.map Key.phase := by
      rcases r.old <;> rfl
    refine ⟨?_, ?_, ?_⟩
    · rw [Record.phases_eq] at h1 ⊢
      rw [hold]
      exact h1
    · obtain rfl | rfl := hst <;> simp
    · obtain rfl | rfl := hst <;> simp
  | charge k b hk _ => exact Record.keysSound_of_alike hr rfl (by simp [hk, Key.charge]) rfl rfl
  | hold p k _ _ => exact Record.keysSound_mapKey hr p (f := Key.hold) fun _ => rfl
  | rollEgress c k k1 hc hk _ ho hp _ =>
    obtain ⟨h1, -, -⟩ := hr
    refine ⟨?_, by simp [Record.rollEgress], by simp [Record.rollEgress]⟩
    rw [Record.phases_eq] at h1 ⊢
    simp only [hc, hk, ho, Option.toList] at h1
    simp only [Record.rollEgress]
    split <;> simp_all [Option.toList, eq_comm]
  | rollIngress c k deadline hc hk _ ho =>
    obtain ⟨h1, h2, h3⟩ := hr
    refine ⟨?_, fun h => ?_, fun h => ?_⟩
    · rw [Record.phases_eq] at h1 ⊢
      simp only [hc, hk, ho, Option.toList] at h1
      simp_all [Record.rollIngress, Option.toList, eq_comm]
    · simp [(h2 h).1] at hk
    · simp [(h3 h).1] at hc
  | empty after _ _ => exact ⟨by simp [Record.phases, Record.blank], fun _ => ⟨rfl, rfl⟩, fun _ => ⟨rfl, rfl, rfl⟩⟩

/-- R47: what a write does to a record leaves the slot that an install waits for. -/
theorem Record.Moved.awaits {s : State} {r r' : Record} (h : Record.Moved s r r') (hr : r.keysSound) (hi : s.control.exec = .installing)
    (hp : s.bank.purge.any Purge.active = false) {toNxt : Bool} {ph : Phase} (ha : r.awaits toNxt ph) : r'.awaits toNxt ph := by
  cases h with
  | same => exact ha
  | move r' hm =>
    cases hm with
    | book r' hst hc hn ho _ =>
      unfold Record.awaits at ha ⊢
      rw [hst, hc, hn]
      exact ha
    | mapKey p f hf => exact Record.awaits_mapKey p (fun k => ⟨(hf k).2.1, (hf k).1⟩) ha
    | cur f hf =>
      obtain ⟨h1, h2⟩ := ha
      refine ⟨?_, h2⟩
      cases toNxt
      · rw [← h1]
        simp only [Bool.false_eq_true, if_false, Option.map_map]
        exact congrArg (fun g => r.cur.map g) (funext fun k => by simp [hf])
      · exact h1
    | exhaust hlive =>
      obtain ⟨h1, h2⟩ := ha
      cases toNxt
      · simp [hlive] at h2
      · exact ⟨h1, .inr rfl⟩
    | destroyOld k ho _ => exact ha
    | retireOld k ho _ => exact ha
    | opened d n channel p hst _ =>
      obtain ⟨-, h2⟩ := ha
      cases toNxt <;> simp [hst] at h2
  | shut st hn _ => exact absurd hn (by simp [hi, hp])
  | charge k b hk hload =>
    obtain ⟨h1, h2⟩ := ha
    cases toNxt
    · simp [hk, hload] at h1
    · exact ⟨h1, h2⟩
  | hold p k _ _ => exact Record.awaits_mapKey p (f := Key.hold) (fun _ => ⟨rfl, rfl⟩) ha
  | rollEgress c k k1 hc hk hks ho hp _ =>
    obtain ⟨h1, h2⟩ := ha
    obtain ⟨-, hopened, -⟩ := hr
    cases toNxt
    · simp [(hopened h2).1] at hk
    · simp [hk, hks] at h1
  | rollIngress c k deadline hc hk hks ho =>
    obtain ⟨h1, h2⟩ := ha
    obtain ⟨-, hopened, -⟩ := hr
    cases toNxt
    · simp [(hopened h2).1] at hk
    · simp [hk, hks] at h1
  | empty after hst _ =>
    obtain ⟨-, h2⟩ := ha
    cases toNxt <;> obtain ⟨h | h, -⟩ | h := hst <;> simp [h] at h2

/-- R26, R43, R47: a write keeps the Store sound. -/
theorem State.Write.storeSound {s t : State} (hc : s.controlSound) (hs : s.storeSound) (h : s.Write t) : t.storeSound := by
  obtain ⟨hkeys, hinstall⟩ := hs
  refine ⟨fun a => (h.moved a).keysSound (hkeys a), fun i hi => ?_⟩
  obtain ⟨⟨-, -, -, -, -, hsame⟩, hactive, hctrl⟩ := h.frame
  rw [hsame] at hi
  obtain ⟨hexec, hidle, hawaits⟩ := (s.installSound_iff i).1 (hinstall i hi)
  refine (t.installSound_iff i).2 ⟨?_, ?_, (h.moved i.index).awaits (hkeys _) hexec hidle hawaits⟩
  · obtain ⟨hq, -⟩ | ⟨hstop, -⟩ := hctrl
    · exact hq.exec.trans hexec
    · obtain ⟨-, -, -, -, -, -, h7, -⟩ := hc
      simp [h7 hstop] at hexec
  · rcases hp : t.bank.purge.any Purge.active with _ | _
    · rfl
    · simpa [hi, hidle] using hactive hp

theorem State.Writes.storeSound {s t : State} (h : s.Writes t) (hc : s.controlSound) (hs : s.storeSound) : t.storeSound :=
  (h.keep (P := fun s => s.controlSound ∧ s.storeSound)
    (fun _ _ h0 hw => ⟨hw.controlSound h0.1, hw.storeSound h0.1 h0.2⟩) ⟨hc, hs⟩).2

/-- A sequence of writes leaves the queue of commands, the device, the lanes and the provisioning area. -/
theorem State.Writes.frame {s t : State} (h : s.Writes t) :
    t.pending = s.pending ∧ t.device = s.device ∧ t.lanes = s.lanes ∧ t.lastGrant = s.lastGrant ∧ t.prov = s.prov
      ∧ t.bank.install = s.bank.install :=
  h.keep (P := fun t => t.pending = s.pending ∧ t.device = s.device ∧ t.lanes = s.lanes ∧ t.lastGrant = s.lastGrant ∧ t.prov = s.prov
      ∧ t.bank.install = s.bank.install)
    (fun _ _ ⟨h1, h2, h3, h4, h5, h6⟩ hw =>
      have ⟨⟨g1, g2, g3, g4, g5, g6⟩, _⟩ := hw.frame
      ⟨g1.trans h1, g2.trans h2, g3.trans h3, g4.trans h4, g5.trans h5, g6.trans h6⟩) ⟨rfl, rfl, rfl, rfl, rfl, rfl⟩

/-- With no stop pending a sequence of writes adds no reply and leaves the requests and the execution. -/
theorem State.Writes.quiet {s t : State} (h : s.Writes t) (hs : s.bank.stop = .none) :
    s.control.Quiet t.control ∧ t.bank.stop = .none :=
  h.keep (P := fun t => s.control.Quiet t.control ∧ t.bank.stop = .none)
    (fun _ _ ⟨h1, h2⟩ hw => by
      obtain ⟨-, -, ⟨hq, hstop⟩ | ⟨hstop, -⟩⟩ := hw.frame
      · exact ⟨h1.trans hq, hstop.elim (fun h => h.trans h2) id⟩
      · exact absurd h2 hstop) ⟨.refl _, hs⟩

end Sys2Proof.Machine
end

section
/-! SUPPORT. The cells and the places of a buffer: what each change takes from them and gives back (R108, R113, R142). -/

namespace Sys2Proof.Machine

/-! ### Paths after writes -/

theorem State.pathStep_setPath (s : State) (d : Dir) (n : LinkId) (p : Path) : s.pathStep (s.setPath d n p) d n p := by
  refine ⟨[], ?_⟩
  rw [Port.asked_nil, ← State.port_setPath s (feedSide d) n n p d, State.setPort_self]

theorem State.path_unname (s : State) (a : AssocId) (d : Dir) (n : LinkId) : (s.unname a).path d n = (s.path d n).unname a := by
  cases d <;> simp [State.unname, State.path, State.link, State.withLinks, Link.path]

/-! ### One path -/

/-- A DROPPED entry holds no cells. -/
def Path.tidy (p : Path) : Prop := ∀ e ∈ p.queue, e.isDropped = true → e.cells = 0

/-- A change of one path that gives `own` cells to the buffer or its entries and adds at most `room` entries. -/
def Path.Takes (own room : Nat) (p p' : Path) : Prop :=
  p.tidy → p'.tidy ∧ p'.free + p'.cellsHeld = p.free + p.cellsHeld + own ∧ p'.queue.length ≤ p.queue.length + room
    ∧ (heldCount p.queue ≤ Config.heldPlaces → heldCount p'.queue ≤ Config.heldPlaces)

theorem Path.Takes.trans {k r k' r' : Nat} {p p' p'' : Path} (h : p.Takes k r p') (h' : p'.Takes k' r' p'') :
    p.Takes (k + k') (r + r') p'' := by
  intro ht
  obtain ⟨t1, c1, l1, m1⟩ := h ht
  obtain ⟨t2, c2, l2, m2⟩ := h' t1
  exact ⟨t2, by omega, by omega, fun hm => m2 (m1 hm)⟩

/-- Only the free cells, the stored frames and the queue matter. -/
theorem Path.Takes.of_eq {p p' : Path} (hf : p'.free = p.free) (hs : p'.stored = p.stored) (hq : p'.queue = p.queue) : p.Takes 0 0 p' := by
  intro ht
  refine ⟨?_, ?_, ?_, ?_⟩
  · unfold Path.tidy
    rw [hq]
    exact ht
  · simp [Path.cellsHeld, hf, hs, hq]
  · simp [hq]
  · rw [hq]
    exact id

theorem Path.Takes.refl (p : Path) : p.Takes 0 0 p := .of_eq rfl rfl rfl

/-- Freed cells. -/
theorem Path.Takes.freed {p p' : Path} {k : Nat} (hf : p'.free = p.free + k) (hs : p'.stored = p.stored) (hq : p'.queue = p.queue) :
    p.Takes k 0 p' := by
  intro ht
  refine ⟨?_, ?_, ?_, ?_⟩
  · unfold Path.tidy
    rw [hq]
    exact ht
  · simp only [Path.cellsHeld, hf, hs, hq]
    omega
  · simp [hq]
  · rw [hq]
    exact id

/-- Entries that are rewritten in place, each with its cells. -/
theorem Path.Takes.rewritten {p p' : Path} {f : Entry → Entry} (hf : p'.free = p.free) (hs : p'.stored = p.stored)
    (hq : p'.queue = p.queue.map f) (hcells : ∀ e ∈ p.queue, (f e).cells = e.cells)
    (hdrop : ∀ e ∈ p.queue, (f e).isDropped = true → e.isDropped = true) (hheld : ∀ e ∈ p.queue, (f e).isHeld = true → e.isHeld = true) :
    p.Takes 0 0 p' := by
  intro ht
  refine ⟨?_, ?_, ?_, fun hm => ?_⟩
  · intro e he hd
    rw [hq] at he
    obtain ⟨x, hx, rfl⟩ := List.mem_map.1 he
    rw [hcells x hx]
    exact ht x hx (hdrop x hx hd)
  · have hsum : (p'.queue.map Entry.cells).sum = (p.queue.map Entry.cells).sum := by
      rw [hq, List.map_map]
      exact congrArg List.sum (List.map_congr_left hcells)
    simp [Path.cellsHeld, hf, hs, hsum]
  · simp [hq]
  · refine le_trans ?_ hm
    unfold heldCount
    rw [hq, ← List.countP_eq_length_filter, ← List.countP_eq_length_filter, List.countP_map]
    exact List.countP_mono_left fun e he h => hheld e he h

/-- R113: entries that are dropped in place give their cells back. -/
theorem Path.Takes.drops {p p' : Path} {chosen : Entry → Bool} {why : Reason}
    (hf : p'.free = p.free + cellsOf p.queue (fun e => chosen e && !e.isDropped)) (hs : p'.stored = p.stored)
    (hq : p'.queue = p.queue.map fun e => if chosen e && !e.isDropped then e.drop why else e) : p.Takes 0 0 p' := by
  intro ht
  refine ⟨?_, ?_, ?_, fun hm => ?_⟩
  · intro e he hd
    rw [hq] at he
    obtain ⟨x, hx, rfl⟩ := List.mem_map.1 he
    rcases hc : chosen x && !x.isDropped with _ | _
    · simp only [hc, Bool.false_eq_true, if_false] at hd ⊢
      exact ht x hx hd
    · simp only [if_true]
      rfl
  · have hsum : ∀ q : List Entry, ((q.map fun e => if chosen e && !e.isDropped then e.drop why else e).map Entry.cells).sum
        + cellsOf q (fun e => chosen e && !e.isDropped) = (q.map Entry.cells).sum := by
      intro q
      induction q with
      | nil => rfl
      | cons e q ih =>
        rcases hc : chosen e && !e.isDropped with _ | _
        · simp only [cellsOf, List.map_cons, List.sum_cons, List.filter_cons, hc, Bool.false_eq_true, if_false] at ih ⊢
          omega
        · have hzero : (e.drop why).cells = 0 := rfl
          simp only [cellsOf, List.map_cons, List.sum_cons, List.filter_cons, hc, if_true, hzero] at ih ⊢
          omega
    have := hsum p.queue
    simp only [Path.cellsHeld, hf, hs, hq]
    omega
  · simp [hq]
  · refine le_trans ?_ hm
    unfold heldCount
    rw [hq, ← List.countP_eq_length_filter, ← List.countP_eq_length_filter, List.countP_map]
    refine List.countP_mono_left fun e _ h => ?_
    simp only [Function.comp] at h
    split at h
    · simp [Entry.drop, Entry.isHeld] at h
    · exact h

/-- A head that leaves with its cells in hand. -/
theorem Path.Takes.popped {p p' : Path} {e : Entry} {rest : List Entry} {k : Nat} (hp : p.queue = e :: rest) (hf : p'.free = p.free + k)
    (hs : p'.stored = p.stored) (hq : p'.queue = rest) (hk : p.tidy → e.cells = k) : p.Takes 0 0 p' := by
  intro ht
  have hmem : ∀ x ∈ rest, x ∈ p.queue := fun x hx => hp ▸ List.mem_cons_of_mem _ hx
  refine ⟨fun x hx => ht x (hmem x (hq ▸ hx)), ?_, ?_, fun hm => ?_⟩
  · have := hk ht
    simp only [Path.cellsHeld, hf, hs, hq, hp, List.map_cons, List.sum_cons]
    omega
  · simp [hp, hq]
  · refine le_trans ?_ hm
    unfold heldCount
    rw [hp, hq, List.filter_cons]
    split <;> simp

/-- An entry that joins the queue with its cells. -/
theorem Path.Takes.appended {p p' : Path} {e : Entry} (hf : p'.free = p.free) (hs : p'.stored = p.stored) (hq : p'.queue = p.queue ++ [e])
    (hd : e.isDropped = false) (hh : e.isHeld = true → heldCount p.queue < Config.heldPlaces) : p.Takes e.cells 1 p' := by
  intro ht
  refine ⟨?_, ?_, ?_, fun hm => ?_⟩
  · intro x hx hxd
    rw [hq] at hx
    obtain hx | hx := List.mem_append.1 hx
    · exact ht x hx hxd
    · rw [List.mem_singleton.1 hx, hd] at hxd
      simp at hxd
  · simp only [Path.cellsHeld, hf, hs, hq, List.map_append, List.map_singleton, List.sum_append, List.sum_singleton]
    omega
  · simp [hq]
  · have hcount : heldCount p'.queue = heldCount p.queue + if e.isHeld then 1 else 0 := by
      unfold heldCount
      rw [hq, List.filter_append, List.length_append, List.filter_singleton]
      split <;> simp_all
    rcases he : e.isHeld with _ | _
    · simp [hcount, he, hm]
    · have := hh he
      simp only [hcount, he, if_true]
      omega

theorem Path.Takes.sound {k r : Nat} {p p' : Path} (h : p.Takes k r p') (ht : p.tidy) (hc : p.free + p.cellsHeld + k = Config.bufferCells)
    (hl : p.queue.length + r ≤ Config.queuePlaces) (hm : heldCount p.queue ≤ Config.heldPlaces) : p'.sound := by
  obtain ⟨t1, c1, l1, m1⟩ := h ht
  exact ⟨c1.trans hc, t1, l1.trans hl, m1 hm⟩

/-! ### The whole part -/

/-- A change that gives `own` cells to the buffer of direction `d` of link `n` and adds at most `room` entries to its queue, and gives
and adds nothing elsewhere. -/
def State.Takes (s t : State) (d : Dir) (n : LinkId) (own room : Nat) : Prop :=
  (s.path d n).Takes own room (t.path d n) ∧ ∀ d' m, (d', m) ≠ (d, n) → (s.path d' m).Takes 0 0 (t.path d' m)

/-- A change that keeps the account of every buffer. -/
def State.Conserves (s t : State) : Prop := ∀ d n, (s.path d n).Takes 0 0 (t.path d n)

theorem State.Conserves.refl (s : State) : s.Conserves s := fun d n => .refl (s.path d n)

theorem State.Conserves.trans {s t u : State} (h : s.Conserves t) (h' : t.Conserves u) : s.Conserves u := fun d n => (h d n).trans (h' d n)

theorem State.Conserves.takes {s t : State} (h : s.Conserves t) (d : Dir) (n : LinkId) : s.Takes t d n 0 0 := ⟨h d n, fun d' m _ => h d' m⟩

theorem State.Takes.conserves {s t : State} {d : Dir} {n : LinkId} (h : s.Takes t d n 0 0) : s.Conserves t := by
  intro d' m
  by_cases hdm : (d', m) = (d, n)
  · obtain ⟨rfl, rfl⟩ := Prod.mk.inj hdm
    exact h.1
  · exact h.2 d' m hdm

theorem State.Takes.trans {s t u : State} {d : Dir} {n : LinkId} {k r k' r' : Nat} (h : s.Takes t d n k r) (h' : t.Takes u d n k' r') :
    s.Takes u d n (k + k') (r + r') := ⟨h.1.trans h'.1, fun d' m hdm => (h.2 d' m hdm).trans (h'.2 d' m hdm)⟩

theorem State.Takes.then {s t u : State} {d : Dir} {n : LinkId} {k r : Nat} (h : s.Takes t d n k r) (h' : t.Conserves u) :
    s.Takes u d n k r := h.trans (h'.takes d n)

theorem State.Conserves.then {s t u : State} {d : Dir} {n : LinkId} {k r : Nat} (h : s.Conserves t) (h' : t.Takes u d n k r) :
    s.Takes u d n k r := by
  have := (h.takes d n).trans h'
  rwa [Nat.zero_add, Nat.zero_add] at this

theorem State.Takes.mono {s t : State} {d : Dir} {n : LinkId} {k r r' : Nat} (h : s.Takes t d n k r) (hr : r ≤ r') : s.Takes t d n k r' :=
  ⟨fun ht => by
    obtain ⟨h1, h2, h3, h4⟩ := h.1 ht
    exact ⟨h1, h2, by omega, h4⟩, h.2⟩

/-- Changes of the free cells, the stored frames or the queue of one path. -/
theorem State.takes_of_step {s t : State} {d : Dir} {n : LinkId} {p : Path} {k r : Nat} (h : s.pathStep t d n p)
    (hp : (s.path d n).Takes k r p) : s.Takes t d n k r := by
  obtain ⟨hpath, -, -, -, -, -, hother, -, -⟩ := State.pathStep_frame h
  exact ⟨hpath ▸ hp, fun d' m hdm => hother d' m hdm ▸ .refl _⟩

theorem State.takes_setPath (s : State) {d : Dir} {n : LinkId} {p : Path} {k r : Nat} (hp : (s.path d n).Takes k r p) :
    s.Takes (s.setPath d n p) d n k r := State.takes_of_step (State.pathStep_setPath s d n p) hp

/-- With the paths as they are. -/
theorem State.Conserves.of_paths {s t : State} (h : ∀ d n, t.path d n = s.path d n) : s.Conserves t := fun d n => h d n ▸ .refl _

theorem State.Conserves.of_links {s t : State} (h : t.links = s.links) : s.Conserves t :=
  .of_paths fun d n => by simp only [State.path, State.link, h]

theorem State.conserves_setRecord (s : State) (a : AssocId) (r : Record) : s.Conserves (s.setRecord a r) := .of_links rfl

theorem State.conserves_notify (s : State) (v : Notice) : s.Conserves (s.notify v) := .of_links rfl

theorem State.conserves_pump (s : State) : s.Conserves s.pump := .of_links rfl

theorem State.conserves_withNow (s : State) (v : Nat) : s.Conserves (s.withNow v) := .of_links rfl

theorem State.conserves_setPort (s : State) (side : Side) (n : LinkId) (p : Port) : s.Conserves (s.setPort side n p) :=
  .of_paths fun d m => State.path_setPort s side n m p d

/-- A link whose paths stay. -/
theorem State.conserves_setLink (s : State) (n : LinkId) (l : Link) (h : ∀ d, l.path d = (s.link n).path d) : s.Conserves (s.setLink n l) := by
  refine .of_paths fun d m => ?_
  by_cases hm : m = n
  · subst hm
    rw [State.path, State.link_setLink_same, h]
    rfl
  · rw [State.path, State.link_setLink_ne _ _ hm]
    rfl

theorem State.conserves_setCover (s : State) (n : LinkId) (c : CoverGen) : s.Conserves (s.setCover n c) :=
  s.conserves_setLink n _ fun d => by cases d <;> rfl

theorem State.Conserves.sound {s t : State} (h : s.Conserves t) (hs : s.buffersSound) : t.buffersSound := by
  intro d n
  obtain ⟨h1, h2, h3, h4⟩ := hs d n
  exact (h d n).sound h2 h1 h3 h4

/-! ### The shared operations -/

theorem State.conserves_setCounters (s : State) (d : Dir) (n : LinkId) (c : Counters) :
    s.Conserves (s.setPath d n { s.path d n with counters := c }) :=
  (s.takes_setPath (p := { s.path d n with counters := c }) (.of_eq rfl rfl rfl)).conserves

theorem State.conserves_countDrop (s : State) (d : Dir) (n : LinkId) (why : Reason) (k : Nat) : s.Conserves (s.countDrop d n why k) :=
  s.conserves_setCounters d n _

theorem State.takes_freeCells (s : State) (d : Dir) (n : LinkId) (k : Nat) : s.Takes (s.freeCells d n k) d n k 0 := by
  obtain ⟨p, hstep, hf, hs, hq, -⟩ := s.freeCells_spec d n k
  exact State.takes_of_step hstep (.freed hf hs hq)

theorem State.takes_dropFrame (s : State) (d : Dir) (n : LinkId) (why : Reason) (k : Nat) : s.Takes (s.dropFrame d n why k) d n k 0 := by
  obtain ⟨p, hstep, hf, hs, hq, -⟩ := s.dropFrame_spec d n why k
  exact State.takes_of_step hstep (.freed hf hs hq)

theorem State.conserves_dropEntries (s : State) (d : Dir) (n : LinkId) (chosen : Entry → Bool) (why : Reason) :
    s.Conserves (s.dropEntries d n chosen why) := by
  obtain ⟨p, hstep, hf, hs, hq, -⟩ := s.dropEntries_spec d n chosen why
  exact (State.takes_of_step hstep (.drops hf hs hq)).conserves

theorem State.conserves_dropHead (s : State) (d : Dir) (n : LinkId) (why : Reason) : s.Conserves (s.dropHead d n why) := by
  rcases hq : (s.path d n).queue with _ | ⟨e, rest⟩
  · have hsame : s.dropHead d n why = s := by simp [State.dropHead, hq]
    rw [hsame]
    exact .refl s
  · obtain ⟨p, hstep, hf, hs, hp, -⟩ := s.dropHead_spec d n why e rest hq
    exact (State.takes_of_step hstep (.popped hq hf hs hp fun _ => rfl)).conserves

/-- R117: a DROPPED head holds no cells. -/
theorem State.conserves_popHead (s : State) (d : Dir) (n : LinkId) {e : Entry} {rest : List Entry} (hq : (s.path d n).queue = e :: rest)
    (he : e.isDropped = true) : s.Conserves (s.popHead d n) := by
  refine (s.takes_setPath (d := d) (n := n) (p := { s.path d n with queue := (s.path d n).queue.tail })
    (.popped hq (k := 0) rfl rfl (by simp [hq]) fun ht => ?_)).conserves
  exact ht e (by simp [hq]) he

theorem State.takes_append (s : State) (d : Dir) (n : LinkId) {e : Entry} (hd : e.isDropped = false)
    (hh : e.isHeld = true → heldCount (s.path d n).queue < Config.heldPlaces) : s.Takes (s.append d n e) d n e.cells 1 :=
  s.takes_setPath (.appended rfl rfl rfl hd hh)

/-- Entries of one queue rewritten in place, each with its cells. -/
theorem State.conserves_mapQueue (s : State) (d : Dir) (n : LinkId) {f : Entry → Entry} (hcells : ∀ e, (f e).cells = e.cells)
    (hdrop : ∀ e, (f e).isDropped = true → e.isDropped = true) (hheld : ∀ e, (f e).isHeld = true → e.isHeld = true) :
    s.Conserves (s.setQueue d n ((s.path d n).queue.map f)) :=
  (s.takes_setPath (p := { s.path d n with queue := (s.path d n).queue.map f }) (.rewritten rfl rfl rfl (fun e _ => hcells e) (fun e _ => hdrop e) fun e _ => hheld e)).conserves

theorem State.conserves_notifyAll (s : State) (vs : List Notice) : s.Conserves (s.notifyAll vs) := by
  rw [State.notifyAll_eq]
  exact .of_links rfl

theorem State.conserves_askPause (s : State) (side : Side) (n : LinkId) (k : PauseKind) : s.Conserves (s.askPause side n k) := by
  rw [State.askPause_eq]
  exact s.conserves_setPort _ _ _

theorem State.conserves_pauseTest (s : State) (d : Dir) (n : LinkId) : s.Conserves (s.pauseTest d n) :=
  (State.takes_of_step ⟨_, State.pauseTest_eq s d n _ _ rfl rfl⟩ (.of_eq rfl rfl rfl)).conserves

theorem State.conserves_unname (s : State) (a : AssocId) : s.Conserves (s.unname a) := by
  intro d n
  rw [State.path_unname]
  refine .rewritten (f := Entry.unname a) rfl rfl rfl (fun e _ => ?_) (fun e _ => ?_) fun e _ => ?_
  · unfold Entry.unname
    split <;> rfl
  · unfold Entry.unname
    split <;> exact id
  · unfold Entry.unname
    split <;> exact id

/-! ### The Store (R71, R80, R84, R86, R87) -/

/-- R80: one entry of the hold is released: the key is charged and counts it. -/
theorem releaseHeld_cons_held {a : AssocId} (r : Record) {e : Entry} (rest : List Entry) (k : Key) (h : e.isHeldOf a = true) :
    ∃ k2 : Key, k2.phase = k.phase ∧ k2.inFlight = k.inFlight + 1
      ∧ (releaseHeld a r (e :: rest) k).1
          = { e with state := .waiting, pn := some k.n, key := some k.phase } :: (releaseHeld a r rest k2).1
      ∧ (releaseHeld a r (e :: rest) k).2.1 = (releaseHeld a r rest k2).2.1
      ∧ (releaseHeld a r (e :: rest) k).2.2.2 = (releaseHeld a r rest k2).2.2.2 + 1 := by
  refine ⟨if (softTestMet r.params (k.charge e.env.charge) k.n).isSome then
    { k.charge e.env.charge with crossed := true, soft := true } else k.charge e.env.charge, ?_, ?_, ?_, ?_, ?_⟩
  · split <;> rfl
  · split <;> rfl
  · simp only [releaseHeld, h, if_true]
  · simp only [releaseHeld, h, if_true]
  · simp only [releaseHeld, h, if_true]

theorem releaseHeld_cons_other {a : AssocId} (r : Record) {e : Entry} (rest : List Entry) (k : Key) (h : e.isHeldOf a = false) :
    releaseHeld a r (e :: rest) k = (e :: (releaseHeld a r rest k).1, (releaseHeld a r rest k).2) := by
  simp only [releaseHeld, h, Bool.false_eq_true, if_false]

/-- R80: the entries of a hold keep their places and cells, and are HELD no longer. -/
theorem releaseHeld_queue (a : AssocId) (r : Record) (q : List Entry) (k : Key) :
    (releaseHeld a r q k).1.length = q.length ∧ ((releaseHeld a r q k).1.map Entry.cells).sum = (q.map Entry.cells).sum
      ∧ (∀ e ∈ (releaseHeld a r q k).1, e.isDropped = true → e ∈ q) ∧ heldCount (releaseHeld a r q k).1 ≤ heldCount q := by
  induction q generalizing k with
  | nil => exact ⟨rfl, rfl, fun e he => by simp [releaseHeld] at he, le_rfl⟩
  | cons e rest ih =>
    rcases hheld : e.isHeldOf a with _ | _
    · rw [releaseHeld_cons_other r rest k hheld]
      obtain ⟨h1, h2, h3, h4⟩ := ih k
      refine ⟨by simp [h1], by simp [h2], fun x hx hd => ?_, ?_⟩
      · obtain rfl | hx := List.mem_cons.1 hx
        · exact List.mem_cons_self
        · exact List.mem_cons_of_mem _ (h3 x hx hd)
      · unfold heldCount at h4 ⊢
        rw [List.filter_cons, List.filter_cons]
        split
        · simpa using h4
        · exact h4
    · obtain ⟨k2, -, -, hq, -, -⟩ := releaseHeld_cons_held r rest k hheld
      obtain ⟨h1, h2, h3, h4⟩ := ih k2
      rw [hq]
      refine ⟨by simp [h1], by simp [h2], fun x hx hd => ?_, ?_⟩
      · obtain rfl | hx := List.mem_cons.1 hx
        · simp [Entry.isDropped] at hd
        · exact List.mem_cons_of_mem _ (h3 x hx hd)
      · unfold heldCount at h4 ⊢
        rw [List.filter_cons, List.filter_cons]
        have hnew : ¬ ({ e with state := .waiting, pn := some k.n, key := some k.phase } : Entry).isHeld = true := by simp [Entry.isHeld]
        rw [if_neg hnew]
        split
        · simp only [List.length_cons]
          omega
        · exact h4

theorem State.conserves_rollEgress (s : State) (a : AssocId) (cause : RollCause) : s.Conserves (s.rollEgress a cause) := by
  rcases hc : (s.record a).cur with _ | c
  · rw [s.rollEgress_of_none a cause (.inl hc)]
    exact .refl s
  · rcases hk : (s.record a).nxt with _ | k
    · rw [s.rollEgress_of_none a cause (.inr hk)]
      exact .refl s
    · rw [s.rollEgress_eq a cause hc hk rfl]
      obtain ⟨h1, h2, h3, h4⟩ := releaseHeld_queue a ((s.record a).rollEgress c k) (s.path .egress (s.record a).link).queue k.enterService
      generalize (releaseHeld a ((s.record a).rollEgress c k) (s.path .egress (s.record a).link).queue k.enterService).1 = q at *
      have hq : s.Takes (s.setQueue .egress (s.record a).link q) .egress (s.record a).link 0 0 := by
        refine s.takes_setPath fun ht => ⟨fun e he hd => ht e (h3 e he hd) hd, ?_, by simp [h1], fun hm => h4.trans hm⟩
        simp [Path.cellsHeld, h2]
      exact hq.conserves

theorem State.conserves_rollIngress (s : State) (a : AssocId) : s.Conserves (s.rollIngress a) := by
  unfold State.rollIngress
  dsimp only
  split
  · exact .of_links rfl
  · exact .refl s

theorem State.conserves_deferredRollover (s : State) (a : AssocId) : s.Conserves (s.deferredRollover a) := by
  unfold State.deferredRollover
  dsimp only
  split
  · split
    · exact s.conserves_rollEgress a _
    · exact s.conserves_rollIngress a
  · exact .refl s

theorem State.conserves_destroyRetired (s : State) (a : AssocId) : s.Conserves (s.destroyRetired a) := by
  unfold State.destroyRetired
  dsimp only
  split
  next k _ =>
    split
    · exact ((s.conserves_dropEntries .ingress (s.record a).link (Entry.isVerifiedOf a k.phase) .late).trans
        (State.conserves_setRecord _ a _)).trans (State.conserves_deferredRollover _ a)
    · exact .refl s
  next => exact .refl s

theorem State.conserves_emptyRecord (s : State) (a : AssocId) (after : RecState) (why : Reason) : s.Conserves (s.emptyRecord a after why) :=
  ((s.conserves_dropEntries .ingress (s.record a).link (Entry.isVerifiedOfAny a) why).trans (State.conserves_setRecord _ a _)).trans
    (State.conserves_unname _ a)

theorem State.conserves_drainEnd (s : State) (a : AssocId) : s.Conserves (s.drainEnd a) := by
  unfold State.drainEnd
  dsimp only
  split
  · exact (s.conserves_emptyRecord a .empty .retired).trans (State.conserves_notify _ _)
  · exact .refl s

theorem State.links_boundary (s : State) (p : Purge) : (s.boundary p).links = s.links := by
  unfold State.boundary
  dsimp only
  split <;> rfl

theorem State.conserves_finishPurged (s : State) : s.Conserves s.finishPurged := by
  unfold State.finishPurged
  split
  · dsimp only
    split
    · exact (s.conserves_emptyRecord _ _ .purged).trans (.of_links (State.links_boundary _ _))
    · exact .refl s
  · exact .refl s

theorem State.conserves_storeActs (s : State) (a : AssocId) : s.Conserves (s.storeActs a) := by
  unfold State.storeActs
  dsimp only
  have h := s.conserves_destroyRetired a
  split
  · exact h.trans (State.conserves_drainEnd _ a)
  · exact h.trans (State.conserves_finishPurged _)
  · exact h

/-! ### The heads (R113, R117, R132) -/

theorem State.conserves_consumeCover (s : State) (n : LinkId) (a : AssocId) {e : Entry} {rest : List Entry}
    (hq : (s.path .ingress n).queue = e :: rest) : s.Conserves (s.consumeCover n a e) := by
  unfold State.consumeCover State.popHead State.setQueue
  dsimp only
  rw [State.path_setPath_same, State.setPath_setPath]
  generalize hp : ({ s.path .ingress n with
    queue := (s.path .ingress n).queue.tail
    counters := { (s.path .ingress n).counters with coverReceived := sat48 (s.path .ingress n).counters.coverReceived 1 } } : Path) = p
  generalize hu : (s.setPath .ingress n p).setRecord a _ = u
  obtain ⟨p', hstep, hf, hs, hpq, -⟩ := u.freeCells_spec .ingress n e.cells
  have hupath : u.path .ingress n = p := by rw [← hu, State.path_setRecord, State.path_setPath_same]
  obtain ⟨hpath, -, -, -, -, -, hother, -, -⟩ := State.pathStep_frame hstep
  rw [hupath, ← hp] at hf hs hpq
  intro d m
  by_cases hdm : (d, m) = (.ingress, n)
  · obtain ⟨rfl, rfl⟩ := Prod.mk.inj hdm
    rw [hpath]
    exact .popped hq hf hs (by rw [hpq, hq]; rfl) fun _ => rfl
  · rw [hother d m hdm, ← hu, State.path_setRecord, State.path_setPath_ne _ _ hdm]
    exact .refl _

theorem State.conserves_handOver (s : State) (n : LinkId) {e : Entry} {rest : List Entry} (frame : Bytes)
    (hq : (s.path .ingress n).queue = e :: rest) : s.Conserves (s.handOver n e frame) := by
  unfold State.handOver State.setQueue
  refine (s.takes_setPath (d := .ingress) (n := n) fun ht => ⟨fun x hx hd => ?_, ?_, ?_, fun hm => ?_⟩).conserves
  · obtain rfl | hx := List.mem_cons.1 hx
    · simp [Entry.isDropped] at hd
    · exact ht x (List.mem_of_mem_tail hx) hd
  · simp [Path.cellsHeld, hq]
  · simp [hq]
  · refine le_trans ?_ hm
    unfold heldCount
    rw [hq, List.tail_cons, List.filter_cons_of_neg (by simp [Entry.isHeld])]
    exact ((List.sublist_cons_self e rest).filter _).length_le

theorem State.conserves_deliver (s : State) (n : LinkId) (a : AssocId) {e : Entry} {rest : List Entry}
    (hq : (s.path .ingress n).queue = e :: rest) : s.Conserves (s.deliver n a e) := by
  unfold State.deliver
  split
  · exact s.conserves_dropHead _ _ _
  · split
    · exact s.conserves_consumeCover n a hq
    · split
      · exact s.conserves_handOver n _ hq
      · exact s.conserves_dropHead _ _ _

theorem State.conserves_releaseHead (s : State) (n : LinkId) : s.Conserves (s.releaseHead n) := by
  unfold State.releaseHead
  split
  · exact .refl s
  next e rest hq =>
    split
    · split
      next a p pn _ _ _ =>
        split
        · exact .refl s
        · split
          · exact s.conserves_dropHead _ _ _
          · have hpath : ((s.setRecord a ((s.record a).acceptPn p pn)).requestRollover a p).path .ingress n = s.path .ingress n :=
              State.requestRollover_path _ a p .ingress n
            have hreq : s.Conserves ((s.setRecord a ((s.record a).acceptPn p pn)).requestRollover a p) :=
              .of_paths fun d m => State.requestRollover_path _ a p d m
            exact hreq.trans (State.conserves_deliver _ n a (by rw [hpath, hq]))
      · exact .refl s
    · exact .refl s

theorem State.conserves_settleHeads (d : Dir) (n : LinkId) (k : Nat) (s : State) : s.Conserves (State.settleHeads d n k s) := by
  induction k generalizing s with
  | zero => exact .refl s
  | succ k ih =>
    unfold State.settleHeads
    split
    · exact .refl s
    next e rest hq =>
      split
      next he => exact (s.conserves_popHead d n hq (by simp [Entry.isDropped, he])).trans (ih _)
      next =>
        split
        · exact .refl s
        · exact (s.conserves_dropHead d n .portDown).trans (ih _)
      next =>
        split
        · exact .refl s
        · exact (s.conserves_releaseHead n).trans (ih _)
      next => exact .refl s

theorem State.conserves_settle (s : State) (d : Dir) (n : LinkId) : s.Conserves (s.settle d n) := State.conserves_settleHeads d n _ s

theorem State.conserves_finish (s : State) (d : Dir) (n : LinkId) : s.Conserves (s.finish d n) :=
  (s.conserves_settle d n).trans (State.conserves_pump _)

end Sys2Proof.Machine
end

section
/-! SUPPORT. Cells and places through traffic (R108, R140, R142): dispatch, classification, arrival and transmission. -/

namespace Sys2Proof.Machine

/-! ### Holds, grace timers and purges -/

theorem State.conserves_withBank (s : State) (v : BankUnit) : s.Conserves (s.withBank v) := .of_links rfl

theorem State.conserves_expireHold (s : State) (d : Dir) (a : AssocId) : s.Conserves (s.expireHold d a) := by
  unfold State.expireHold
  dsimp only
  split
  · exact .refl s
  · exact (((s.conserves_withNow _).trans (State.conserves_dropEntries _ _ _ _ _)).trans (State.conserves_notify _ _)).trans
      (State.conserves_finish _ _ _)

theorem State.conserves_expireGrace (s : State) (a : AssocId) : s.Conserves (s.expireGrace a) := by
  unfold State.expireGrace
  dsimp only
  split
  · split
    · split
      · exact (((s.conserves_withNow _).trans (State.conserves_setRecord _ _ _)).trans (State.conserves_storeActs _ _)).trans
          (State.conserves_finish _ _ _)
      · exact .refl s
    · exact .refl s
  · exact .refl s

theorem State.conserves_purgeTake (s : State) (p : Purge) : s.Conserves (s.purgeTake p) := by
  unfold State.purgeTake
  dsimp only
  refine State.Conserves.trans ?_ (State.conserves_finish _ _ _)
  refine State.Conserves.trans ?_ (State.conserves_storeActs _ _)
  refine State.Conserves.trans ?_ (State.conserves_withBank _ _)
  exact (s.conserves_dropEntries _ _ _ _).trans (State.conserves_setRecord _ _ _)

theorem State.conserves_boundary (s : State) (p : Purge) : s.Conserves (s.boundary p) := .of_links (s.links_boundary p)

theorem State.conserves_purgeVisit (s : State) : s.Conserves s.purgeVisit := by
  unfold State.purgeVisit
  split
  · dsimp only
    split
    · split
      · exact (s.conserves_boundary _).trans (State.conserves_pump _)
      · split
        · exact (s.conserves_boundary _).trans (State.conserves_pump _)
        · exact s.conserves_purgeTake _
    · exact .refl s
  · exact .refl s

theorem State.conserves_purgeRecordFinished (s : State) : s.Conserves s.purgeRecordFinished := by
  unfold State.purgeRecordFinished
  split
  · exact s.conserves_finishPurged.trans (State.conserves_finish _ _ _)
  · exact .refl s

/-! ### The key usage decision (R65 to R80) -/

theorem State.takes_takeUnderCur (s : State) (n : LinkId) (a : AssocId) (e : Entry) {k : Key} (hk : (s.record a).cur = some k) :
    s.Takes (s.takeUnderCur n a e) .egress n e.cells 1 := by
  rw [s.takeUnderCur_eq n a e hk]
  exact (s.conserves_setRecord a _).then
    (State.takes_append _ .egress n (e := { e with state := .waiting, pn := some k.n, key := some k.phase }) rfl (by simp [Entry.isHeld]))

theorem State.conserves_softTest (s : State) (a : AssocId) (pn : Nat) : s.Conserves (s.softTest a pn) := by
  unfold State.softTest
  dsimp only
  split
  · split
    · exact .refl s
    · split
      · exact (s.conserves_setRecord _ _).trans (State.conserves_rollEgress _ _ _)
      · exact (s.conserves_setRecord _ _).trans (State.conserves_notify _ _)
  · exact .refl s

theorem State.takes_dispatchUnderCur (s : State) (n : LinkId) (a : AssocId) (e : Entry) {k : Key} (hk : (s.record a).cur = some k) :
    s.Takes (s.dispatchUnderCur n a e) .egress n e.cells 1 :=
  (s.takes_takeUnderCur n a e hk).then (State.conserves_softTest _ _ _)

/-- What becomes of an entry with `cells` cells that asks for a key: it joins the queue, or its drop is answered and nothing is taken. -/
def State.Decides (s : State) (d : Dir) (n : LinkId) (cells : Nat) (out : State × Option Reason) : Prop :=
  (out.2 = none → s.Takes out.1 d n cells 1) ∧ (out.2 ≠ none → s.Conserves out.1)

theorem State.Decides.dropped {s t : State} {d : Dir} {n : LinkId} {cells : Nat} {why : Reason} (h : s.Conserves t) :
    s.Decides d n cells (t, some why) := ⟨fun hn => by simp at hn, fun _ => h⟩

theorem State.Decides.joined {s t : State} {d : Dir} {n : LinkId} {cells : Nat} (h : s.Takes t d n cells 1) :
    s.Decides d n cells (t, none) := ⟨fun _ => h, fun hn => by simp at hn⟩

theorem State.Decides.after {s u : State} {d : Dir} {n : LinkId} {cells : Nat} {out : State × Option Reason} (h : s.Conserves u)
    (h' : u.Decides d n cells out) : s.Decides d n cells out := ⟨fun hn => h.then (h'.1 hn), fun hn => h.trans (h'.2 hn)⟩

theorem State.decides_holdEntry (s : State) (n : LinkId) (a : AssocId) (e : Entry) : s.Decides .egress n e.cells (s.holdEntry n a e) := by
  unfold State.holdEntry
  dsimp only
  split
  · exact .dropped (.refl s)
  · split
    · exact .dropped (.refl s)
    next hroom =>
      exact .joined (s.takes_append .egress n (e := { e with state := .held _ _, pn := none, key := none }) rfl
        fun _ => Nat.lt_of_not_le hroom)

theorem State.conserves_exhaust (s : State) (a : AssocId) (b : Nat) : s.Conserves (s.exhaust a b) := by
  unfold State.exhaust
  dsimp only
  split
  · split <;> exact .of_links rfl
  · exact .of_links rfl

theorem State.decides_cannotTake (s : State) (n : LinkId) (a : AssocId) (e : Entry) : s.Decides .egress n e.cells (s.cannotTake n a e) := by
  unfold State.cannotTake
  dsimp only
  split
  · exact .dropped (s.conserves_exhaust a _)
  · split
    next hroll =>
      obtain ⟨-, hcur, hready, -⟩ := (Record.canRoll_iff _).1 hroll
      obtain ⟨c, hc⟩ := Option.isSome_iff_exists.1 hcur
      obtain ⟨k, hk, -⟩ := slotIs_iff.1 hready
      refine .after (s.conserves_rollEgress a .limit) (.joined ?_)
      have hnew : ∃ k1, ((s.rollEgress a .limit).record a).cur = some k1 := by
        rw [s.rollEgress_eq a .limit hc hk rfl, State.record_withControl, State.setQueue, State.record_setPath, State.record_setRecord_same]
        exact ⟨_, rfl⟩
      obtain ⟨k1, hk1⟩ := hnew
      exact State.takes_dispatchUnderCur _ n a e hk1
    · exact .after (.of_links rfl) (State.decides_holdEntry _ n a e)

theorem State.decides_keyUse (s : State) (n : LinkId) (a : AssocId) (e : Entry) : s.Decides .egress n e.cells (s.keyUse n a e) := by
  unfold State.keyUse
  dsimp only
  split
  · exact s.decides_holdEntry n a e
  · split
    next husable =>
      have hcur : ∃ k, (s.record a).cur = some k := by
        have hu := husable.2
        unfold Record.usable at hu
        split at hu
        next k hk => exact ⟨k, hk⟩
        next => simp at hu
      obtain ⟨k, hk⟩ := hcur
      exact .joined (s.takes_dispatchUnderCur n a e hk)
    next => exact s.decides_cannotTake n a e

/-! ### Dispatch (R64, R7 to R11) -/

/-- Cells that a buffer had free are taken for what follows. -/
theorem State.takes_of_taken {s u t : State} {d : Dir} {n : LinkId} {p : Path} {own k c r : Nat} (hstep : s.pathStep u d n p)
    (hf : p.free = (s.path d n).free - k) (hs : p.stored = (s.path d n).stored) (hq : p.queue = (s.path d n).queue)
    (hk : k ≤ (s.path d n).free) (hc : c = own + k) (h : u.Takes t d n c r) : s.Takes t d n own r := by
  obtain ⟨hpath, -, -, -, -, -, hother, -, -⟩ := State.pathStep_frame hstep
  obtain ⟨h1, h2⟩ := h
  refine ⟨fun ht => ?_, fun d' m hdm => hother d' m hdm ▸ h2 d' m hdm⟩
  rw [hpath] at h1
  have ht' : p.tidy := by
    unfold Path.tidy
    rw [hq]
    exact ht
  obtain ⟨t1, c1, l1, m1⟩ := h1 ht'
  refine ⟨t1, ?_, hq ▸ l1, hq ▸ m1⟩
  simp only [Path.cellsHeld, hf, hs, hq] at c1 ⊢
  omega

theorem State.conserves_countReduced (s : State) (n : LinkId) (reduced : Bool) : s.Conserves (s.countReduced n reduced) := by
  unfold State.countReduced
  split
  · exact s.conserves_setCounters .egress n _
  · exact .refl s

/-- R64: a dispatch accounts for the cells that its frame held already. -/
theorem State.takes_dispatch (s : State) (n : LinkId) (a : AssocId) (kind : EntryKind) (len own : Nat) (x : Bool) (coverCode : Nat)
    (data : Bytes) : s.Takes (s.dispatch n a kind len own x coverCode data).1 .egress n own 1 := by
  unfold State.dispatch
  split
  · exact (s.takes_dropFrame _ _ _ _).mono (Nat.zero_le 1)
  next v reduced _ =>
    dsimp only
    have hred := s.conserves_countReduced n reduced
    generalize s.countReduced n reduced = s1 at *
    split
    · exact (hred.then (s1.takes_dropFrame _ _ _ _)).mono (Nat.zero_le 1)
    next hfree =>
      obtain ⟨p, hstep, hf, hs, hq, -⟩ := s1.takeCells_spec .egress n (cellsFor v.envLen - own)
      obtain ⟨hjoin, hdrop⟩ := (s1.takeCells .egress n (cellsFor v.envLen - own)).decides_keyUse n a
        (newEntry kind a v (max own (cellsFor v.envLen)) coverCode data)
      have hcells : (newEntry kind a v (max own (cellsFor v.envLen)) coverCode data).cells = own + (cellsFor v.envLen - own) := by
        simp only [newEntry]
        omega
      refine hred.then ?_
      split
      next hnone => exact State.takes_of_taken hstep hf hs hq (Nat.le_of_not_lt hfree) hcells (hjoin hnone)
      next why hsome =>
        refine (State.takes_of_taken hstep hf hs hq (Nat.le_of_not_lt hfree) (own := own) ?_
          ((hdrop (by simp [hsome])).then (State.takes_dropFrame _ _ _ _ _))).mono (Nat.zero_le 1)
        omega

/-! ### Classification (R88 to R92, R102 to R105, R109) -/

/-- What becomes of a frame whose cells are in hand: they are given back, or an entry takes a place that is free. -/
def State.Admits (s t : State) (d : Dir) (n : LinkId) (cells : Nat) : Prop :=
  s.Takes t d n cells 0 ∨ (s.queueFull d n = false ∧ s.Takes t d n cells 1)

theorem State.admits_dropFrame (s : State) (d : Dir) (n : LinkId) (why : Reason) (k : Nat) : s.Admits (s.dropFrame d n why k) d n k :=
  .inl (s.takes_dropFrame d n why k)

theorem State.admits_enterBypass (s : State) (d : Dir) (n : LinkId) (f : Bytes) : s.Admits (s.enterBypass d n f) d n (cellsFor f.length) := by
  unfold State.enterBypass
  split
  · exact s.admits_dropFrame _ _ _ _
  next hroom => exact .inr ⟨by simpa using hroom, s.takes_append d n (e := bypassEntry f) rfl (by simp [bypassEntry, Entry.isHeld])⟩

theorem State.admits_egressBypass (s : State) (n : LinkId) (f : Bytes) : s.Admits (s.egressBypass n f) .egress n (cellsFor f.length) := by
  unfold State.egressBypass
  split
  · exact s.admits_enterBypass _ n f
  · exact s.admits_dropFrame _ _ _ _

theorem State.admits_egressEncrypt (s : State) (n : LinkId) (a : AssocId) (f : Bytes) :
    s.Admits (s.egressEncrypt n a f) .egress n (cellsFor f.length) := by
  unfold State.egressEncrypt
  dsimp only
  split
  · exact s.admits_dropFrame _ _ _ _
  · split
    · exact s.admits_dropFrame _ _ _ _
    next hroom => exact .inr ⟨by simpa using hroom, s.takes_dispatch n a _ _ _ _ _ _⟩

theorem State.admits_egressVerdict (s : State) (n : LinkId) (f : Bytes) (v : Verdict) (assoc : Option AssocId) :
    s.Admits (s.egressVerdict n f v assoc) .egress n (cellsFor f.length) := by
  unfold State.egressVerdict
  split
  · exact s.admits_dropFrame _ _ _ _
  · exact s.admits_egressBypass n f
  · exact s.admits_egressEncrypt n _ f
  · exact s.admits_dropFrame _ _ _ _

theorem State.admits_egressFlow (s : State) (n : LinkId) (f : Bytes) : s.Admits (s.egressFlow n f) .egress n (cellsFor f.length) := by
  unfold State.egressFlow
  split
  next k hk =>
    split
    next e _ => exact State.admits_egressVerdict (s.withFlow (s.flow.hit k)) n f e.verdict e.assoc
    next hnone =>
      unfold State.flowKeyFor at hk
      dsimp only at hk
      split at hk
      next h => obtain rfl := Option.some.inj hk; simp [hnone] at h
      next =>
        split at hk
        next h => obtain rfl := Option.some.inj hk; simp [hnone] at h
        next => simp at hk
  next => exact s.admits_egressVerdict n f _ _

theorem State.admits_egressFrame (s : State) (n : LinkId) (f : Bytes) : s.Admits (s.egressFrame n f) .egress n (cellsFor f.length) := by
  unfold State.egressFrame
  split
  · exact s.admits_dropFrame _ _ _ _
  · exact s.admits_dropFrame _ _ _ _
  · split
    · exact s.admits_dropFrame _ _ _ _
    · exact s.admits_egressBypass n f
    · exact s.admits_egressFlow n f

theorem State.decides_holdIngress (s : State) (n : LinkId) (a : AssocId) (e : Entry) : s.Decides .ingress n e.cells (s.holdIngress n a e) := by
  unfold State.holdIngress
  dsimp only
  split
  · exact .dropped (.refl s)
  · split
    · exact .dropped (.refl s)
    · split
      · exact .dropped (.refl s)
      next hroom =>
        exact .joined (s.takes_append .ingress n (e := { e with state := .held _ _ }) rfl fun _ => Nat.lt_of_not_le hroom)

theorem State.decides_enterEnvelope (s : State) (n : LinkId) (a : AssocId) (e : Entry) :
    s.Decides .ingress n e.cells (s.enterEnvelope n a e) := by
  unfold State.enterEnvelope
  split
  · exact .dropped (.refl s)
  · exact s.decides_holdIngress n a e
  · split
    · exact .dropped (.refl s)
    · exact .joined ((s.conserves_setRecord a _).then
        (State.takes_append _ .ingress n (e := { e with state := .waiting, key := some e.phase }) rfl (by simp [Entry.isHeld])))

theorem State.admits_ingressEnvelope (s : State) (n : LinkId) (x : Bool) (f : Bytes) :
    s.Admits (s.ingressEnvelope n x f) .ingress n (cellsFor f.length) := by
  unfold State.ingressEnvelope
  dsimp only
  split
  · exact s.admits_dropFrame _ _ _ _
  · split
    · exact s.admits_dropFrame _ _ _ _
    next a _ =>
      split
      · exact s.admits_dropFrame _ _ _ _
      · split
        · exact s.admits_dropFrame _ _ _ _
        next hroom =>
          have hroom' : s.queueFull .ingress n = false := by simpa using hroom
          obtain ⟨hjoin, hdrop⟩ := s.decides_enterEnvelope n a (openEntry a x (headerOf x f) f)
          split
          next s1 heq =>
            rw [heq] at hjoin
            exact .inr ⟨hroom', hjoin rfl⟩
          next s1 why heq =>
            rw [heq] at hdrop
            exact .inl ((hdrop (by simp)).then (s1.takes_dropFrame _ _ _ _))

theorem State.admits_ingressFrame (s : State) (n : LinkId) (f : Bytes) : s.Admits (s.ingressFrame n f) .ingress n (cellsFor f.length) := by
  unfold State.ingressFrame State.ingressClear
  dsimp only
  split
  · exact s.admits_dropFrame _ _ _ _
  · split
    · exact s.admits_ingressEnvelope n _ f
    · split
      · split
        · exact s.admits_enterBypass _ n f
        · exact s.admits_dropFrame _ _ _ _
        · exact s.admits_dropFrame _ _ _ _
      · exact s.admits_dropFrame _ _ _ _

theorem State.Admits.sound {s t : State} {d : Dir} {n : LinkId} {cells : Nat} (h : s.Admits t d n cells)
    (hdn : (s.path d n).free + (s.path d n).cellsHeld + cells = Config.bufferCells ∧ (s.path d n).tidy
      ∧ (s.path d n).queue.length ≤ Config.queuePlaces ∧ heldCount (s.path d n).queue ≤ Config.heldPlaces)
    (hother : ∀ d' m, (d', m) ≠ (d, n) → (s.path d' m).sound) : t.buffersSound := by
  obtain ⟨h1, h2, h3, h4⟩ := hdn
  intro d' m
  by_cases hdm : (d', m) = (d, n)
  · obtain ⟨rfl, rfl⟩ := Prod.mk.inj hdm
    obtain ht | ⟨hroom, ht⟩ := h
    · exact ht.1.sound h2 h1 h3 h4
    · refine ht.1.sound h2 h1 ?_ h4
      simp only [State.queueFull, decide_eq_false_iff_not] at hroom
      omega
  · obtain ⟨g1, g2, g3, g4⟩ := hother d' m hdm
    obtain ht | ⟨-, ht⟩ := h <;> exact (ht.2 d' m hdm).sound g2 g1 g3 g4

/-- R88: the oldest stored frame leaves the stored frames with its cells. -/
theorem State.buffersSound_classified {s t : State} {d : Dir} {n : LinkId} {f : Bytes} {rest : List Bytes} (hs : s.buffersSound)
    (hf : (s.path d n).stored = f :: rest)
    (h : (s.setPath d n { s.path d n with stored := rest }).Admits t d n (cellsFor f.length)) : t.buffersSound := by
  obtain ⟨h1, h2, h3, h4⟩ := hs d n
  refine h.sound ?_ fun d' m hdm => ?_
  · rw [State.path_setPath_same]
    refine ⟨?_, h2, h3, h4⟩
    simp only [Path.cellsHeld, hf, List.map_cons, List.sum_cons] at h1 ⊢
    omega
  · rw [State.path_setPath_ne _ _ hdm]
    exact hs d' m

theorem State.buffersSound_classifyEgress {s : State} (hs : s.buffersSound) (n : LinkId) : (s.classifyEgress n).buffersSound := by
  unfold State.classifyEgress
  dsimp only
  split
  · exact hs
  next f rest hf => exact (State.conserves_finish _ _ _).sound (State.buffersSound_classified hs hf (State.admits_egressFrame _ n f))

theorem State.buffersSound_classifyIngress {s : State} (hs : s.buffersSound) (n : LinkId) : (s.classifyIngress n).buffersSound := by
  unfold State.classifyIngress
  dsimp only
  split
  · exact hs
  next f rest hf => exact (State.conserves_finish _ _ _).sound (State.buffersSound_classified hs hf (State.admits_ingressFrame _ n f))

/-! ### Cover (R157) -/

theorem State.conserves_coverOutcome (s : State) (n : LinkId) (why : Option Reason) : s.Conserves (s.coverOutcome n why) := by
  unfold State.coverOutcome State.stall
  split
  · exact s.conserves_setCover n _
  · split
    · dsimp only
      split
      · exact .refl s
      · exact (s.conserves_setCover n _).trans (State.conserves_notify _ _)
    · exact .refl s

theorem State.admits_tryCover (s : State) (n : LinkId) : s.Admits (s.tryCover n) .egress n 0 := by
  unfold State.tryCover
  split
  · exact .inl ((s.conserves_setCover n _).takes _ _)
  next hroom =>
    split
    · unfold State.stall
      dsimp only
      split
      · exact .inl ((State.Conserves.refl s).takes _ _)
      · exact .inl (((s.conserves_setCover n _).trans (State.conserves_notify _ _)).takes _ _)
    next a _ =>
      have hformed : s.Conserves (s.countFormed n) := s.conserves_setCounters .egress n _
      unfold State.formCover
      dsimp only
      split
      · exact .inl (((hformed.trans (State.conserves_countDrop _ _ _ _ _)).trans (State.conserves_coverOutcome _ _ _)).takes _ _)
      · exact .inr ⟨by simpa using hroom, (hformed.then (State.takes_dispatch _ n a _ _ _ _ _ _)).then (State.conserves_coverOutcome _ _ _)⟩

theorem State.buffersSound_coverExpiry {s : State} (hs : s.buffersSound) (n : LinkId) : (s.coverExpiry n).buffersSound := by
  unfold State.coverExpiry
  split
  next t _ =>
    have hnow : s.Conserves ((s.withNow (max s.now t)).scheduleCover n t) := (s.conserves_withNow _).trans (State.conserves_setCover _ n _)
    have hsound := hnow.sound hs
    exact (State.conserves_finish _ _ _).sound ((State.admits_tryCover _ n).sound (hsound .egress n) fun d' m _ => hsound d' m)
  next => exact hs

/-! ### Ports, arrival and transmission (R114, R140, R144 to R146) -/

theorem State.conserves_restartResend (s : State) (d : Dir) (n : LinkId) : s.Conserves (s.restartResend d n) := by
  unfold State.restartResend
  dsimp only
  split
  · exact (s.takes_setPath (d := d) (n := n)
      (p := { s.path d n with resendAt := some (s.now + resendInterval ((s.params n).buf d)) }) (.of_eq rfl rfl rfl)).conserves
  · exact .refl s

theorem State.conserves_sendPause (s : State) (side : Side) (n : LinkId) : s.Conserves (s.sendPause side n) := by
  unfold State.sendPause
  dsimp only
  split
  · exact .refl s
  · split
    · exact (s.conserves_setPort _ _ _).trans (State.conserves_restartResend _ _ _)
    · exact .refl s

theorem State.conserves_resendPause (s : State) (d : Dir) (n : LinkId) : s.Conserves (s.resendPause d n) := by
  unfold State.resendPause
  dsimp only
  split
  · split
    · exact ((s.conserves_withNow _).trans (State.conserves_restartResend _ _ _)).trans (State.conserves_askPause _ _ _ _)
    · exact .refl s
  · exact .refl s

theorem State.conserves_startTransmit (s : State) (d : Dir) (n : LinkId) : s.Conserves (s.startTransmit d n) := by
  unfold State.startTransmit
  dsimp only
  split
  · exact .refl s
  · split
    · exact s.conserves_setPort _ _ _
    · exact .refl s

theorem State.conserves_endPause (s : State) (side : Side) (n : LinkId) : s.Conserves (s.endPause side n) :=
  (s.conserves_setPort _ _ _).trans (State.conserves_startTransmit _ _ _)

theorem State.conserves_countFrame (s : State) (e : Entry) : s.Conserves (s.countFrame e) := by
  unfold State.countFrame
  split
  · exact s.conserves_setRecord _ _
  · exact .refl s

/-- R114, R115, R142: the entry that has been sent leaves, and its cells are freed. -/
theorem State.conserves_endTransmit (s : State) (d : Dir) (n : LinkId) : s.Conserves (s.endTransmit d n) := by
  unfold State.endTransmit
  dsimp only
  split
  · exact .refl s
  next e rest hq =>
    split
    · refine State.Conserves.trans ?_ (State.conserves_finish _ _ _)
      rw [State.path_setPort]
      generalize hu : ((s.setPort (sendSide d) n _).setPath d n _).countFrame e = u
      have hpath : ∀ d' m, u.path d' m = (s.setPath d n { s.path d n with queue := rest, counters := (s.path d n).counters.sent e }).path d' m := by
        intro d' m
        rw [← hu]
        have hcount : ∀ v : State, (v.countFrame e).path d' m = v.path d' m := by
          intro v
          unfold State.countFrame
          split <;> rfl
        rw [hcount]
        by_cases hdm : (d', m) = (d, n)
        · obtain ⟨rfl, rfl⟩ := Prod.mk.inj hdm
          simp
        · rw [State.path_setPath_ne _ _ hdm, State.path_setPath_ne _ _ hdm, State.path_setPort]
      obtain ⟨p, hstep, hf, hs, hpq, -⟩ := u.freeCells_spec d n e.cells
      obtain ⟨hp, -, -, -, -, -, hother, -, -⟩ := State.pathStep_frame hstep
      rw [hpath, State.path_setPath_same] at hf hs hpq
      intro d' m
      by_cases hdm : (d', m) = (d, n)
      · obtain ⟨rfl, rfl⟩ := Prod.mk.inj hdm
        rw [hp]
        exact .popped hq hf hs hpq fun _ => rfl
      · rw [hother d' m hdm, hpath, State.path_setPath_ne _ _ hdm]
        exact .refl _
    · exact .refl s

theorem State.conserves_honourPause (s : State) (side : Side) (n : LinkId) (q : Nat) : s.Conserves (s.honourPause side n q) := by
  unfold State.honourPause
  split
  · split
    · exact s.conserves_endPause _ _
    · exact .refl s
  · exact s.conserves_setPort _ _ _

/-- R140, R142: a frame is stored only with its cells. -/
theorem State.buffersSound_store {s : State} (hs : s.buffersSound) (d : Dir) (n : LinkId) (f : Bytes) : (s.store d n f).buffersSound := by
  unfold State.store
  dsimp only
  split
  · exact (s.conserves_setCounters d n _).sound hs
  next hfree =>
    generalize hu : s.setPath d n { s.path d n with
      stored := (s.path d n).stored ++ [f], counters := { (s.path d n).counters with framesIn := sat48 (s.path d n).counters.framesIn 1 } } = u
    obtain ⟨p, hstep, hf, hst, hq, -⟩ := u.takeCells_spec d n (cellsFor f.length)
    obtain ⟨hpath, -, -, -, -, -, hother, -, -⟩ := State.pathStep_frame hstep
    rw [← hu, State.path_setPath_same] at hf hst hq
    intro d' m
    by_cases hdm : (d', m) = (d, n)
    · obtain ⟨rfl, rfl⟩ := Prod.mk.inj hdm
      obtain ⟨h1, h2, h3, h4⟩ := hs d' m
      rw [hpath]
      refine ⟨?_, hq ▸ h2, hq ▸ h3, hq ▸ h4⟩
      simp only [Path.cellsHeld, hf, hst, hq, List.map_append, List.map_singleton, List.sum_append, List.sum_singleton] at h1 ⊢
      omega
    · rw [hother d' m hdm, ← hu, State.path_setPath_ne _ _ hdm]
      exact hs d' m

theorem State.buffersSound_arrive {s : State} (hs : s.buffersSound) (side : Side) (n : LinkId) (f : Bytes) :
    (s.arrive side n f).buffersSound := by
  unfold State.arrive
  dsimp only
  split
  · split
    · exact (s.conserves_countDrop _ _ _ _).sound hs
    · split
      · exact (s.conserves_countDrop _ _ _ _).sound hs
      · split
        · exact (s.conserves_countDrop _ _ _ _).sound hs
        · split
          · split
            · exact (s.conserves_honourPause _ _ _).sound hs
            · exact hs
          · exact State.buffersSound_store hs _ _ _
  · exact hs

theorem State.conserves_portUp (s : State) (side : Side) (n : LinkId) : s.Conserves (s.portUp side n) := by
  unfold State.portUp
  dsimp only
  refine State.Conserves.trans ?_ (State.conserves_notify _ _)
  split
  · exact (s.conserves_setPort _ _ _).trans (State.conserves_restartResend _ _ _)
  · exact s.conserves_setPort _ _ _

theorem State.conserves_signalAppears (s : State) (side : Side) (n : LinkId) : s.Conserves (s.signalAppears side n) := by
  unfold State.signalAppears
  dsimp only
  have h := s.conserves_setPort side n { s.port side n with signal := true }
  split
  · exact (h.trans (State.conserves_portUp _ _ _)).trans (State.conserves_pump _)
  · exact h

theorem State.conserves_signalLost (s : State) (side : Side) (n : LinkId) (receiving : Bool) :
    s.Conserves (s.signalLost side n receiving) := by
  unfold State.signalLost
  dsimp only
  split
  · refine (State.Conserves.trans ?_ (State.conserves_notify _ _)).trans (State.conserves_finish _ _ _)
    split
    · exact (s.conserves_setPort _ _ _).trans (State.conserves_countDrop _ _ _ _ _)
    · exact s.conserves_setPort _ _ _
  · exact s.conserves_setPort _ _ _

theorem State.conserves_raisePort (s : State) (side : Side) (n : LinkId) : s.Conserves (s.raisePort side n) := by
  unfold State.raisePort
  split
  · exact s.conserves_portUp _ _
  · exact .refl s

theorem State.conserves_raisePorts (s : State) : s.Conserves s.raisePorts := by
  have hfold : ∀ (side : Side) (ns : List LinkId) (u : State), u.Conserves (ns.foldl (fun s n => s.raisePort side n) u) := by
    intro side ns
    induction ns with
    | nil => exact fun u => .refl u
    | cons n ns ih => exact fun u => (u.conserves_raisePort side n).trans (ih _)
  exact (hfold .rack _ s).trans (hfold .campus _ _)

/-! ### Link requests (R151, R153) -/

theorem State.conserves_thresholdTest (s : State) (d : Dir) (n : LinkId) (old : BufferParams) : s.Conserves (s.thresholdTest d n old) := by
  unfold State.thresholdTest
  dsimp only
  split
  · exact .refl s
  · exact s.conserves_pauseTest d n

theorem State.conserves_setParams (s : State) (n : LinkId) (p : LinkParams) : s.Conserves (s.setParams n p) := by
  unfold State.setParams
  have hset : s.Conserves (s.setLink n { s.link n with params := p }) := s.conserves_setLink n _ fun d => by cases d <;> rfl
  exact (hset.trans (State.conserves_thresholdTest _ _ _ _)).trans (State.conserves_thresholdTest _ _ _ _)

theorem State.conserves_setMode (s : State) (n : LinkId) (m : Mode) : s.Conserves (s.setMode n m) := by
  unfold State.setMode
  split
  · exact .refl s
  · refine s.conserves_setLink n _ fun d => ?_
    unfold Link.enterMode
    cases d <;> rfl

/-- R148: a clearing read changes counters only. -/
theorem State.conserves_zeroCounters (s : State) (n : LinkId) : s.Conserves (s.setLink n (s.link n).zeroCounters) := by
  intro d m
  by_cases hm : m = n
  · subst hm
    simp only [State.path, State.link_setLink_same]
    cases d <;> exact .of_eq rfl rfl rfl
  · simp only [State.path, State.link_setLink_ne _ _ hm]
    exact .refl _

end Sys2Proof.Machine
end

section
/-! SUPPORT. The requests as writes and a reply, and the inversion of `exec`: what a command can do to the State. -/

namespace Sys2Proof.Machine

/-! ### The effects of requests -/

theorem clampTo_value_bounds {lo hi : Nat} (h : lo ≤ hi) (v : Nat) : lo ≤ (clampTo lo hi v).value ∧ (clampTo lo hi v).value ≤ hi := by
  simp only [clampTo]
  omega

/-- A parameter that is kept, or taken from a clamped number, stays in its range. -/
theorem handleParam_clampTo_bounds {lo hi prev : Nat} (applies : Bool) (marker : Byte) (h : lo ≤ hi) (hp : lo ≤ prev ∧ prev ≤ hi)
    (v : Nat) : lo ≤ (handleParam applies marker prev (clampTo lo hi v)).value
      ∧ (handleParam applies marker prev (clampTo lo hi v)).value ≤ hi := by
  unfold handleParam
  split
  · exact clampTo_value_bounds h v
  · exact hp

theorem setParam_clampTo_bounds {lo hi prev : Nat} (b : Bytes) (marker : Nat) (h : lo ≤ hi) (hp : lo ≤ prev ∧ prev ≤ hi) (v : Nat) :
    lo ≤ (setParam b marker prev (clampTo lo hi v)).value ∧ (setParam b marker prev (clampTo lo hi v)).value ≤ hi := by
  unfold setParam
  split
  · exact clampTo_value_bounds h v
  · exact hp

theorem handleParam_quantum (applies : Bool) (marker : Byte) {prev : Nat} (hp : prev = 0 ∨ prev = 16 ∨ prev = 64 ∨ prev = 256) (v : Nat) :
    (handleParam applies marker prev (holdUnless prev (quantum? v))).value = 0
      ∨ (handleParam applies marker prev (holdUnless prev (quantum? v))).value = 16
      ∨ (handleParam applies marker prev (holdUnless prev (quantum? v))).value = 64
      ∨ (handleParam applies marker prev (holdUnless prev (quantum? v))).value = 256 := by
  unfold handleParam
  split
  · unfold quantum?
    split
    next h => exact h
    next => exact hp
  · exact hp

/-- Table 2-2: the parameters that a body gives to a record are in range. -/
theorem applyAssocParams_inRange (d : Dir) {p : AssocParams} (h : p.inRange) (b : Bytes) : (applyAssocParams d p b).1.inRange := by
  obtain ⟨hq, hs1, hs2, he1, he2, hw⟩ := h
  have hsoft := handleParam_clampTo_bounds (d == .egress) (byteAt b 11) (by omega) ⟨hs1, hs2⟩ (numAt b 12 4)
  have hcap := handleParam_clampTo_bounds (d == .egress) (byteAt b 16) (by omega) ⟨he1, he2⟩ (numAt b 17 1)
  have hwin := handleParam_clampTo_bounds (!(d == .egress)) (byteAt b 18) (by omega) ⟨Nat.zero_le _, hw⟩ (numAt b 19 2)
  exact ⟨handleParam_quantum _ _ hq _, hsoft.1, hsoft.2, hcap.1, hcap.2, hwin.2⟩

theorem raiseXon_inRange {b : BufferParams} (h : 1 ≤ b.xoff ∧ b.xoff ≤ 2047 ∧ b.xon ≤ 2048 ∧ 1 ≤ b.quanta ∧ b.quanta ≤ 0xFFFF) :
    (raiseXon b).value.inRange := by
  unfold raiseXon
  split
  · refine ⟨h.1, h.2.1, le_rfl, ?_, h.2.2.2.1, h.2.2.2.2⟩
    simp only
    omega
  · refine ⟨h.1, h.2.1, ?_, h.2.2.1, h.2.2.2.1, h.2.2.2.2⟩
    simp only [Handled.take]
    omega

theorem setParam_envType {b : Bytes} {prev : Nat} (h : 0x0600 ≤ prev ∧ prev ≤ 0xFFFF ∧ prev ≠ 0x8100) (v : Nat) :
    0x0600 ≤ (setParam b 1 prev (handleEnvType prev v)).value ∧ (setParam b 1 prev (handleEnvType prev v)).value ≤ 0xFFFF
      ∧ (setParam b 1 prev (handleEnvType prev v)).value ≠ 0x8100 := by
  unfold setParam
  split
  · unfold handleEnvType
    split
    · exact h
    · simp only [clampTo]
      omega
  · exact h

/-- R3: a code of two bytes. -/
theorem numAt_two_le (b : Bytes) (i : Nat) : numAt b i 2 ≤ 0xFFFF := by
  unfold numAt slice beNat
  generalize hl : (b.drop i).take 2 = l
  have hlen : l.length ≤ 2 := by rw [← hl]; simp
  match l, hlen with
  | [], _ => simp
  | [x], _ =>
    have := x.isLt
    simp only [List.foldl_cons, List.foldl_nil]
    omega
  | [x, y], _ =>
    have := x.isLt
    have := y.isLt
    simp only [List.foldl_cons, List.foldl_nil]
    omega

/-- Table 9-1: the parameters that a body gives to a link are in range. -/
theorem applyLinkParams_inRange {p : LinkParams} (h : p.inRange) (b : Bytes) : (applyLinkParams p b).1.inRange := by
  obtain ⟨e1, e2, e3, r1, r2, c1, c2, h1, h2, g1, g2, ⟨a1, a2, a3, a4, a5, a6⟩, ⟨b1, b2, b3, b4, b5, b6⟩, i1, i2, l1, l2, k⟩ := h
  obtain ⟨he1, he2, he3⟩ := setParam_envType (b := b) ⟨e1, e2, e3⟩ (numAt b 2 2)
  obtain ⟨hr1, hr2⟩ := setParam_clampTo_bounds b 4 (by omega) ⟨r1, r2⟩ (numAt b 5 2)
  obtain ⟨hc1, hc2⟩ := setParam_clampTo_bounds b 7 (by omega) ⟨c1, c2⟩ (numAt b 8 2)
  obtain ⟨hh1, hh2⟩ := setParam_clampTo_bounds b 15 (by omega) ⟨h1, h2⟩ (numAt b 16 4)
  obtain ⟨hg1, hg2⟩ := setParam_clampTo_bounds b 20 (by omega) ⟨g1, g2⟩ (numAt b 21 4)
  obtain ⟨hi1, hi2⟩ := setParam_clampTo_bounds b 43 (by omega) ⟨i1, i2⟩ (numAt b 44 2)
  obtain ⟨hl1, hl2⟩ := setParam_clampTo_bounds b 46 (by omega) ⟨l1, l2⟩ (numAt b 47 2)
  obtain ⟨hex1, hex2⟩ := setParam_clampTo_bounds b 25 (by omega) ⟨a1, a2⟩ (numAt b 26 2)
  obtain ⟨hix1, hix2⟩ := setParam_clampTo_bounds b 28 (by omega) ⟨b1, b2⟩ (numAt b 29 2)
  obtain ⟨-, hen⟩ := setParam_clampTo_bounds b 31 (lo := 2) (by omega) ⟨by omega, a4⟩ (numAt b 32 2)
  obtain ⟨-, hin⟩ := setParam_clampTo_bounds b 34 (lo := 2) (by omega) ⟨by omega, b4⟩ (numAt b 35 2)
  obtain ⟨heq1, heq2⟩ := setParam_clampTo_bounds b 37 (by omega) ⟨a5, a6⟩ (numAt b 38 2)
  obtain ⟨hiq1, hiq2⟩ := setParam_clampTo_bounds b 40 (by omega) ⟨b5, b6⟩ (numAt b 41 2)
  refine ⟨he1, he2, he3, hr1, hr2, hc1, hc2, hh1, hh2, hg1, hg2, raiseXon_inRange ⟨hex1, hex2, hen, heq1, heq2⟩,
    raiseXon_inRange ⟨hix1, hix2, hin, hiq1, hiq2⟩, hi1, hi2, hl1, hl2, ?_⟩
  change (setParam b 52 p.coverCode (.take (numAt b 53 2))).value ≤ _
  unfold setParam
  split
  · exact numAt_two_le b 53
  · exact k

theorem State.setMode_writes (s : State) (n : LinkId) (m : Mode) : s.Writes (s.setMode n m) := by
  unfold State.setMode
  split
  · exact State.Writes.none s
  · exact s.setLink_writes n _ rfl rfl rfl

theorem State.setParams_writes (s : State) (n : LinkId) (b : Bytes) : s.Writes (s.setParams n (applyLinkParams (s.params n) b).1) := by
  unfold State.setParams
  have hset := State.Write.link (s := s) n { s.link n with params := (applyLinkParams (s.params n) b).1 } (sameRefs.refl _) (sameRefs.refl _)
    fun h => applyLinkParams_inRange h b
  exact (hset.writes.trans (State.thresholdTest_writes _ _ _ _)).trans (State.thresholdTest_writes _ _ _ _)

/-! ### The flow table (R96, R99, R100) -/

/-- R99: an entry of a new key at the end of a chain with a place. -/
theorem FlowTable.add_sound {t : FlowTable} (h : t.sound) (e : FlowEntry) (hnew : t.find e.key = none)
    (hroom : (t.chain e.key.bucket).length < Config.chainMax) : (t.add e).sound := by
  intro b
  obtain ⟨hlen, hnodup, hbucket⟩ := h b
  change ((t.setChain e.key.bucket (t.chain e.key.bucket ++ [e])).chain b).length ≤ _ ∧ _
  have hchain : (t.add e).chain b = if b = e.key.bucket then t.chain e.key.bucket ++ [e] else t.chain b :=
    t.chain_setChain e.key.bucket b _
  rw [hchain, FlowTable.chain_setChain]
  split
  next hb =>
    subst hb
    refine ⟨by simpa using hroom, ?_, ?_⟩
    · rw [List.map_append, List.map_singleton]
      refine hnodup.append (List.nodup_singleton _) ?_
      have hfresh : ∀ x ∈ t.chain e.key.bucket, x.key ≠ e.key := by simpa [FlowTable.find] using hnew
      simpa [List.disjoint_singleton] using hfresh
    · intro x hx
      obtain hx | hx := List.mem_append.1 hx
      · exact hbucket x hx
      · rw [List.mem_singleton.1 hx]
  next => exact ⟨hlen, hnodup, hbucket⟩

theorem FlowTable.remove_sound {t : FlowTable} (h : t.sound) (k : FlowKey) : (t.remove k).sound := by
  intro b
  obtain ⟨hlen, hnodup, hbucket⟩ := h b
  have hchain : (t.remove k).chain b = if b = k.bucket then (t.chain k.bucket).filter (fun e => e.key != k) else t.chain b :=
    t.chain_setChain k.bucket b _
  rw [hchain]
  split
  next hb =>
    subst hb
    exact ⟨(List.length_filter_le _ _).trans hlen, hnodup.sublist (List.filter_sublist.map _),
      fun x hx => hbucket x (List.mem_of_mem_filter hx)⟩
  next => exact ⟨hlen, hnodup, hbucket⟩

/-! ### What a command can do -/

/-- R164, R167: a request is at the head and its execution begins, or stands between two items. -/
def State.attending (s : State) : Prop :=
  s.control.requests ≠ [] ∧ ((s.control.exec = .idle ∧ s.control.executed = 0)
    ∨ ∃ next left done fl data, s.control.exec = .items next left done fl data)

/-- Writes that keep every buffer sound. -/
structure State.Acts (s t : State) : Prop where
  writes : s.Writes t
  buffers : s.buffersSound → t.buffersSound

theorem State.Acts.of {s t : State} (h : s.Writes t) (hc : s.Conserves t) : s.Acts t := ⟨h, hc.sound⟩

/-- Writes outside the links. -/
theorem State.Acts.off {s t : State} (h : s.Writes t) (hlinks : t.links = s.links) : s.Acts t := .of h (.of_links hlinks)

theorem State.Acts.refl (s : State) : s.Acts s := .of (State.Writes.none s) (.refl s)

theorem State.Acts.trans {s t u : State} (h : s.Acts t) (h' : t.Acts u) : s.Acts u :=
  ⟨h.writes.trans h'.writes, fun hs => h'.buffers (h.buffers hs)⟩

/-- What a command can do to the State: writes; writes and the reply of the request at the head, or its next item; the beginnings and
ends of installs, stops, programming operations; zeroizations, the soft reset and start-up; the lines; and the lanes. (RESET and power-on
stand apart, in `exec_event`.) -/
inductive State.Event (s : State) : State → Prop where
  | writes (t : State) : s.Acts t → Event s t
  | reply (u : State) (st : Status) (fl : Flags) (k : Nat) (body : Bytes) : s.attending → s.Acts u → Event s (u.answer st fl k body).pump
  | item (u : State) (next left done : Nat) (fl : Flags) (data : Bytes) : s.attending → s.Acts u →
      Event s (u.withControl { u.control with exec := .items next left done fl data }).pump
  | takeInstall (u : State) (f : InstallFields) : s.attending → s.Acts u → u.installCheck f = none → Event s (u.takeInstall f).pump
  | awaitBoundary (stop : Stop) : s.attending → Event s (s.awaitBoundary stop).pump
  | program (f : Programming) : s.attending → s.prov.locked = false → Event s (s.startProgramming f).pump
  | softReset : s.attending → Event s (s.softResetAll.answerOnce .ok Flags.none []).pump
  | zeroize : s.attending → Event s s.zeroizeByRequest.pump
  | zeroizeInput : s.resetAsserted = false → Event s (s.zeroizeFrom .input).answerCut.pump
  | startUp (ctrlRate wrapOnly : Bool) : s.device.state = .inReset → Event s (s.beginStartUp ctrlRate wrapOnly)
  | selfTest (passed : BitVec 8) (unwrap : Bool) : s.device.state = .starting → Event s (s.endSelfTest passed unwrap).pump
  | programmed : Event s s.endProgramming
  | received (bs : Bytes) : Event s (s.receiveAll bs)
  | abandoned (bs : Bytes) : Event s (s.receiveThenAbandon bs)
  | frameSent : Event s (s.withControl { s.control with sending := none }).pump
  | unwrapped : Event s s.unwrapEnds
  | expanded : Event s s.expansionEnds
  | grant : Event s s.grant
  | laneDone (l : LaneId) : Event s (s.completeLane l)

theorem State.Event.none (s : State) : s.Event s := .writes s (.refl s)

/-- A reply that follows writes. -/
def State.Replies (s t : State) : Prop := ∃ u st fl k body, s.Acts u ∧ t = u.answer st fl k body

theorem State.Replies.once {s u : State} (h : s.Acts u) (st : Status) (fl : Flags) (body : Bytes) :
    s.Replies (u.answerOnce st fl body) := ⟨u, st, _, 0, body, h, rfl⟩

theorem State.Replies.now (s : State) (st : Status) (fl : Flags) (body : Bytes) : s.Replies (s.answerOnce st fl body) :=
  .once (.refl s) st fl body

theorem State.Replies.after {s u t : State} (h : s.Acts u) (h' : u.Replies t) : s.Replies t := by
  obtain ⟨v, st, fl, k, body, hv, rfl⟩ := h'
  exact ⟨v, st, fl, k, body, h.trans hv, rfl⟩

theorem State.attending_of_ready {s : State} {q : Request} (h : s.ready? = some q) : s.attending := by
  unfold State.ready? at h
  split at h
  next q' rest hq =>
    split at h
    next hfree =>
      simp only [Control.free, Bool.and_eq_true, beq_iff_eq, List.all_eq_true, Bool.not_eq_true'] at hfree
      refine ⟨by simp [hq], .inl ⟨hfree.1.1, ?_⟩⟩
      simp only [Control.executed, List.length_eq_zero_iff, List.filter_eq_nil_iff]
      intro r hr
      simp [hfree.1.2 r hr]
    next => simp at h
  next => simp at h

theorem State.attending_of_begin {s : State} {code : Byte} {a c : Bool} {x : Request × Option Status}
    (h : s.beginRequest code a c = some x) : s.attending := by
  unfold State.beginRequest at h
  split at h
  next q hq => exact State.attending_of_ready hq
  next => simp at h

theorem State.event_reply {s t : State} (ha : s.attending) (h : s.Replies t) : s.Event t.pump := by
  obtain ⟨u, st, fl, k, body, hu, rfl⟩ := h
  exact .reply u st fl k body ha hu

/-- R164, R165: a request that is not repeatable does nothing, is refused, or acts. -/
theorem State.runOnce_event (s : State) (code : Byte) (a c : Bool) (act : Request → State → State)
    (h : ∀ q, s.attending → s.Event (act q s).pump) : s.Event (s.runOnce code a c act) := by
  unfold State.runOnce
  split
  next q why hb => exact .reply s why _ 0 [] (State.attending_of_begin hb) (.refl s)
  next q hb => exact h q (State.attending_of_begin hb)
  next => exact .none s

theorem State.withBody_event {s act : State} {q : Request} {len : Nat} (ha : s.attending) (h : s.Event act.pump) :
    s.Event (s.withBody q len act).pump := by
  unfold State.withBody
  split
  · exact h
  · exact State.event_reply ha (.now s _ _ _)

theorem State.doItem_event {s : State} (k : Repeatable) (q : Request) (i left done : Nat) (fl : Flags) (data : Bytes)
    (ha : s.attending) (h : s.Acts (k.item q i s).1) : s.Event (s.doItem k q i left done fl data).pump := by
  unfold State.doItem
  dsimp only
  split
  · exact .reply _ _ _ _ _ ha h
  · split
    · exact .reply _ _ _ _ _ ha h
    · exact .item _ _ _ _ _ _ ha h

/-- R167: a repeatable request does nothing, is refused, or does an item. -/
theorem State.runRepeat_event (s : State) (k : Repeatable) (h : ∀ q i, s.attending → s.Acts (k.item q i s).1) :
    s.Event (s.runRepeat k) := by
  unfold State.runRepeat
  split
  next i left done fl data q rest hexec hreq =>
    split
    · have ha : s.attending := ⟨by simp [hreq], .inr ⟨i, left, done, fl, data, hexec⟩⟩
      exact State.doItem_event k q i left done fl data ha (h q i ha)
    · exact .none s
  next =>
    split
    next q why hb => exact .reply s why _ 0 [] (State.attending_of_begin hb) (.refl s)
    next q hb =>
      have ha := State.attending_of_begin hb
      unfold State.beginRepeat
      split
      · exact .reply s _ _ 0 [] ha (.refl s)
      · split
        · exact .reply s _ _ 0 [] ha (.refl s)
        · split
          · exact .reply s _ _ 0 [] ha (.refl s)
          · exact State.doItem_event k q _ _ _ _ _ ha (h q _ ha)
    next => exact .none s

theorem State.exec_of_attending {s : State} (ha : s.attending) :
    s.control.exec ≠ .installing ∧ s.control.exec ≠ .awaitingBoundary ∧ s.control.exec ≠ .programming := by
  obtain ⟨-, ⟨h, -⟩ | ⟨_, _, _, _, _, h⟩⟩ := ha <;> simp [h]

/-- R164: while a request is attended nothing is installed, stopped or programmed. -/
theorem State.install_none_of_attending {s : State} (hc : s.controlSound) (ha : s.attending) :
    s.bank.install = none ∧ s.bank.stop = .none ∧ s.prov.programming = none ∧ s.control.executed = 0 := by
  obtain ⟨-, -, -, -, h5, h6, h7, h8⟩ := hc
  have hexec := State.exec_of_attending ha
  obtain ⟨-, ha⟩ := ha
  refine ⟨?_, ?_, ?_, ?_⟩
  · rcases hi : s.bank.install with _ | i
    · rfl
    · exact absurd (h6 (by simp [hi])) hexec.1
  · by_contra hs
    exact hexec.2.1 (h7 hs)
  · rcases hp : s.prov.programming with _ | p
    · rfl
    · exact absurd (h8 (by simp [hp])) hexec.2.2
  · obtain ⟨-, h⟩ | ⟨_, _, _, _, _, h⟩ := ha
    · exact h
    · exact (h5 (by simp [h])).1

/-! ### The effects of requests on the tables, the records and the purge -/

theorem State.addFlow_replies (s : State) (e : FlowEntry) : s.Replies (s.addFlow e) := by
  unfold State.addFlow
  dsimp only
  split
  · exact .now s _ _ _
  next hnew =>
    split
    · exact .now s _ _ _
    next hroom =>
      split
      · exact .now s _ _ _
      · exact .once (.off (State.Write.flow _ fun h => FlowTable.add_sound h e (by simpa using hnew) (Nat.lt_of_not_le hroom)).writes rfl) _ _ _

theorem State.addFlowRequest_replies (q : Request) (s : State) : s.Replies (State.addFlowRequest q s) := by
  unfold State.addFlowRequest
  split
  · split
    · exact .now s _ _ _
    · exact s.addFlow_replies _
  · exact .now s _ _ _

theorem State.removeFlowRequest_replies (q : Request) (s : State) : s.Replies (State.removeFlowRequest q s) := by
  unfold State.removeFlowRequest State.removeFlow
  split
  · split
    · exact .now s _ _ _
    · exact .once (.off (State.Write.flow _ fun h => FlowTable.remove_sound h _).writes rfl) _ _ _
  · exact .now s _ _ _

@[simp] theorem State.afterTest_control (s : State) (a : AssocId) (cond : Byte) : (s.afterTest a cond).control = s.control := by
  unfold State.afterTest
  split <;> rfl

/-- R33: a condition may clear the soft flag of a key, and nothing of the links. -/
theorem State.afterTest_acts (s : State) (a : AssocId) (cond : Byte) : s.Acts (s.afterTest a cond) := by
  refine .off (s.afterTest_writes a cond) ?_
  unfold State.afterTest
  split <;> rfl

theorem State.ifMeets_replies (s : State) (q : Request) (a : AssocId) (act : State → State) (h : ∀ u : State, u.Replies (act u)) :
    s.Replies (s.ifMeets q a act) := by
  unfold State.ifMeets
  dsimp only
  split
  · exact .after (s.afterTest_acts a q.cond) (h _)
  · exact .once (s.afterTest_acts a q.cond) _ _ _

theorem State.openAssoc_replies (q : Request) (s : State) : s.Replies (State.openAssoc q s) := by
  unfold State.openAssoc
  split
  · exact .now s _ _ _
  next a _ =>
    refine s.ifMeets_replies q a _ fun u => ?_
    unfold State.openChecked
    split
    next d n _ _ =>
      split
      · exact .now u _ _ _
      · split
        · exact .now u _ _ _
        · split
          · exact .now u _ _ _
          next hempty =>
            exact .once (.off (u.setRecord_writes a (.opened d n _ _ (by simpa using hempty)
              (applyAssocParams_inRange d AssocParams.default_inRange _))) rfl) _ _ _
    next => exact .now u _ _ _

theorem State.rolloverRequest_replies (q : Request) (s : State) : s.Replies (State.rolloverRequest q s) := by
  unfold State.rolloverRequest
  split
  · exact .now s _ _ _
  next a _ =>
    refine s.ifMeets_replies q a _ fun u => ?_
    unfold State.rolloverChecked
    dsimp only
    split
    · exact .now u _ _ _
    · split
      · exact .now u _ _ _
      next hready =>
        split
        · exact .now u _ _ _
        next hold =>
          exact .once (.of (State.Write.rollEgress a .request (by simpa using hready) (by simpa using hold)).writes
            (u.conserves_rollEgress a .request)) _ _ _

theorem State.setLinkMode_replies (q : Request) (s : State) : s.Replies (State.setLinkMode q s) := by
  unfold State.setLinkMode
  split
  · exact .now s _ _ _
  · split
    · exact .now s _ _ _
    · exact .once (.of (s.setMode_writes _ _) (s.conserves_setMode _ _)) _ _ _

theorem State.setLinkParams_replies (q : Request) (s : State) : s.Replies (State.setLinkParams q s) := by
  unfold State.setLinkParams
  split
  · exact .now s _ _ _
  · split
    · exact .once (.of (s.setParams_writes _ _) (s.conserves_setParams _ _)) _ _ _
    · exact .now s _ _ _

theorem State.provisionRead_replies (q : Request) (s : State) : s.Replies (State.provisionRead q s) := by
  unfold State.provisionRead
  split <;> exact .now s _ _ _

/-- R33: an item that its condition guards is made of writes when its act is. -/
theorem State.itemIfMeets_acts (s : State) (q : Request) (a : AssocId) (act : State → State × Flags × Status)
    (h : (s.afterTest a q.cond).Acts (act (s.afterTest a q.cond)).1) : s.Acts (s.itemIfMeets q a act).1 := by
  unfold State.itemIfMeets
  dsimp only
  split
  · exact (s.afterTest_acts a q.cond).trans h
  · exact s.afterTest_acts a q.cond

theorem State.recordRepeat_event (s : State) (code : Byte) (conditional : Bool) (bodyLength size : Nat)
    (item : Request → AssocId → State → State × Flags × Bytes) (h : ∀ q a, s.attending → s.Acts (item q a s).1) :
    s.Event (s.runRepeat (recordRepeat code conditional bodyLength size item)) := by
  refine s.runRepeat_event _ fun q i ha => ?_
  simp only [recordRepeat]
  split
  · exact h q _ ha
  · exact .refl s

theorem State.setAssocItem_acts (q : Request) (a : AssocId) (s : State) : s.Acts (State.setAssocItem q a s).1 := by
  refine s.itemIfMeets_acts q a _ ?_
  unfold State.setAssocRecord
  dsimp only
  split
  · exact .off (State.setRecord_writes _ a (.book _ rfl rfl rfl rfl fun h => applyAssocParams_inRange _ h _)) rfl
  · exact .refl _

@[simp] theorem State.control_dropEntries (s : State) (d : Dir) (n : LinkId) (chosen : Entry → Bool) (why : Reason) :
    (s.dropEntries d n chosen why).control = s.control := by
  obtain ⟨p, ⟨ks, h⟩, -⟩ := s.dropEntries_spec d n chosen why
  rw [h]; rfl

theorem State.retireItem_acts (q : Request) (a : AssocId) (s : State) (ha : s.attending) :
    s.Acts (State.retireItem q a s).1 := by
  refine s.itemIfMeets_acts q a _ ?_
  generalize hu : s.afterTest a q.cond = u
  have hexec : u.control.exec ≠ .installing := by
    rw [← hu, State.afterTest_control]
    exact (State.exec_of_attending ha).1
  unfold State.retireRecord
  dsimp only
  split
  next =>
    refine State.Acts.trans ?_ (.of (State.settle_writes _ _ _) (State.conserves_settle _ _ _))
    refine State.Acts.trans ?_ (.of (State.storeActs_writes _ _) (State.conserves_storeActs _ _))
    refine State.Acts.trans (.of (u.dropHeld_writes (u.record a).dir (u.record a).link a .retired) (u.conserves_dropEntries _ _ _ _)) ?_
    have hshut := State.Write.shut (s := u.dropEntries (u.record a).dir (u.record a).link (Entry.isHeldOf a) .retired) a .draining
    rw [State.record_dropEntries, State.control_dropEntries] at hshut
    exact .off (hshut (.inl hexec) (.inl rfl)).writes rfl
  next => exact .refl u

theorem State.releaseItem_acts (q : Request) (a : AssocId) (s : State) : s.Acts (State.releaseItem q a s).1 := by
  unfold State.releaseItem
  dsimp only
  split
  next h =>
    exact .of (State.Write.empty a .empty (.inr h) (.inl rfl)).writes
      ((s.conserves_setRecord a _).trans (State.conserves_unname _ a))
  next => exact .refl s

theorem State.setRangeRuleItem_acts (q : Request) (i : Nat) (s : State) : s.Acts (State.setRangeRuleItem q i s).1 := by
  unfold State.setRangeRuleItem
  split
  · exact .refl s
  · dsimp only
    split
    · exact .off (State.Write.rules _).writes rfl
    · exact .refl s

theorem State.readCountersItem_acts (q : Request) (i : Nat) (s : State) : s.Acts (State.readCountersItem q i s).1 := by
  unfold State.readCountersItem
  split
  · dsimp only
    split
    · exact .of (s.setLink_writes _ _ rfl rfl rfl) (s.conserves_zeroCounters _)
    · exact .refl s
  · exact .refl s

theorem State.readLinkItem_acts (q : Request) (i : Nat) (s : State) : s.Acts (State.readLinkItem q i s).1 := by
  unfold State.readLinkItem
  split <;> exact .refl s

/-- R46: the checks of INSTALL-KEY, with its taking. -/
theorem State.installRequest_event (q : Request) (s : State) (ha : s.attending) : s.Event (State.installRequest q s).pump := by
  unfold State.installRequest
  split
  · exact State.event_reply ha (.now s _ _ _)
  next f _ =>
    unfold State.ifMeets State.installChecked
    dsimp only
    have htest := s.afterTest_acts f.index q.cond
    split
    · split
      · exact State.event_reply ha (.once htest _ _ _)
      next hcheck => exact .takeInstall _ f ha htest hcheck
    · exact State.event_reply ha (.once htest _ _ _)

theorem State.purgeRequest_replies (q : Request) (s : State) (ha : s.attending) : s.Replies (State.purgeRequest q s) := by
  unfold State.purgeRequest
  split
  · exact .now s _ _ _
  next p clamped _ =>
    split
    · exact .now s _ _ _
    next hfree =>
      have hi : s.bank.install = none := by simp_all
      exact .once (.off (State.Write.bank (s := s) { s.bank with purge := some p, stop := .none } rfl
        (.inr ⟨rfl, (State.exec_of_attending ha).2.1⟩) fun _ => .inr hi).writes rfl) _ _ _

theorem State.suspendPurge_event (s : State) (ha : s.attending) : s.Event s.suspendPurge.pump := by
  unfold State.suspendPurge
  split
  next p hp =>
    split
    · exact State.event_reply ha (.now s _ _ _)
    next hactive =>
      split
      · exact .awaitBoundary _ ha
      · exact State.event_reply ha (.once (.off (s.withPurge_writes { p with active := false } (by simp)) rfl) _ _ _)
  next => exact State.event_reply ha (.now s _ _ _)

theorem State.resumePurge_replies (s : State) : s.Replies s.resumePurge := by
  unfold State.resumePurge
  split
  next p hp =>
    split
    · exact .now s _ _ _
    · split
      · exact .now s _ _ _
      next hi => exact .once (.off (s.withPurge_writes _ fun _ => .inr (by simpa using hi)) rfl) _ _ _
  next => exact .now s _ _ _

theorem State.cancelPurge_event (s : State) (ha : s.attending) : s.Event s.cancelPurge.pump := by
  unfold State.cancelPurge
  split
  next p hp =>
    split
    · exact .awaitBoundary _ ha
    · exact State.event_reply ha (.once (.off (s.endPurge_writes p true (.inr (State.exec_of_attending ha).2.1)) rfl) _ _ _)
  next => exact State.event_reply ha (.now s _ _ _)

theorem State.provisionWrite_event (q : Request) (s : State) (ha : s.attending) : s.Event (State.provisionWrite q s).pump := by
  unfold State.provisionWrite
  split
  · exact State.event_reply ha (.now s _ _ _)
  · split
    · exact State.event_reply ha (.now s _ _ _)
    next hlocked =>
      split
      · exact State.event_reply ha (.now s _ _ _)
      · exact .program _ ha (by simpa using hlocked)

theorem State.provisionLock_event (q : Request) (s : State) (ha : s.attending) : s.Event (State.provisionLock q s).pump := by
  unfold State.provisionLock
  split
  · exact State.event_reply ha (.now s _ _ _)
  next hlocked =>
    split
    · exact State.event_reply ha (.now s _ _ _)
    · split
      · exact .program _ ha (by simpa using hlocked)
      · exact State.event_reply ha (.now s _ _ _)

theorem State.unknownRequest_event {s t : State} (h : execUnknownRequest s = .next t) : s.Event t := by
  obtain rfl := Host.Outcome.next.inj h
  split
  next q hq =>
    split
    · exact .none s
    · exact .reply s _ _ _ _ (State.attending_of_ready hq) (.refl s)
  next => exact .none s

/-- What a command that is neither RESET nor power-on can do to the State. -/
theorem exec_event {i : Instr} {s t : State} (hreset : i ≠ .hardReset) (hpower : ∀ c w, i ≠ .powerOn c w) (h : exec i s = .next t) :
    s.Event t := by
  cases i with
  | powerOn c w => exact absurd rfl (hpower c w)
  | hardReset => exact absurd rfl hreset
  | startUp c w =>
    obtain rfl := Host.Outcome.next.inj h
    split
    next hs => exact .startUp c w hs
    next => exact .none s
  | selfTestComplete passed unwrap =>
    obtain rfl := Host.Outcome.next.inj h
    split
    next hs => exact .selfTest passed unwrap hs
    next => exact .none s
  | linkSignalAppears side n => exact Host.Outcome.next.inj h ▸ .writes _ (.of (s.signalAppears_writes side n) (s.conserves_signalAppears side n))
  | linkSignalLost side n r => exact Host.Outcome.next.inj h ▸ .writes _ (.of (s.signalLost_writes side n r) (s.conserves_signalLost side n r))
  | frameArrival side n bs => exact Host.Outcome.next.inj h ▸ .writes _ ⟨s.arrive_writes side n bs, fun hs => State.buffersSound_arrive hs side n bs⟩
  | pauseDeadline side n =>
    obtain rfl := Host.Outcome.next.inj h
    split
    · exact .writes _ (.of ((s.withNow_writes _).trans (State.endPause_writes _ side n)) ((s.conserves_withNow _).trans (State.conserves_endPause _ side n)))
    · exact .none s
  | pauseResendInterval d n => exact Host.Outcome.next.inj h ▸ .writes _ (.of (s.resendPause_writes d n) (s.conserves_resendPause d n))
  | pauseFrameSend side n => exact Host.Outcome.next.inj h ▸ .writes _ (.of (s.sendPause_writes side n) (s.conserves_sendPause side n))
  | egressClassification n => exact Host.Outcome.next.inj h ▸ .writes _ ⟨s.classifyEgress_writes n, fun hs => State.buffersSound_classifyEgress hs n⟩
  | ingressClassification n => exact Host.Outcome.next.inj h ▸ .writes _ ⟨s.classifyIngress_writes n, fun hs => State.buffersSound_classifyIngress hs n⟩
  | laneGrant => exact Host.Outcome.next.inj h ▸ .grant
  | laneComplete l => exact Host.Outcome.next.inj h ▸ .laneDone l
  | headRelease n => exact Host.Outcome.next.inj h ▸ .writes _ (.of ((s.releaseHead_writes n).trans (State.finish_writes _ _ _)) ((s.conserves_releaseHead n).trans (State.conserves_finish _ _ _)))
  | frameTransmitStart d n => exact Host.Outcome.next.inj h ▸ .writes _ (.of (s.startTransmit_writes d n) (s.conserves_startTransmit d n))
  | frameTransmitEnd d n => exact Host.Outcome.next.inj h ▸ .writes _ (.of (s.endTransmit_writes d n) (s.conserves_endTransmit d n))
  | holdDeadline a => exact Host.Outcome.next.inj h ▸ .writes _ (.of (s.expireHold_writes .egress a) (s.conserves_expireHold .egress a))
  | ingressHoldDeadline a => exact Host.Outcome.next.inj h ▸ .writes _ (.of (s.expireHold_writes .ingress a) (s.conserves_expireHold .ingress a))
  | graceExpiry a => exact Host.Outcome.next.inj h ▸ .writes _ (.of (s.expireGrace_writes a) (s.conserves_expireGrace a))
  | retiringKeyDestroyed a => exact Host.Outcome.next.inj h ▸ .writes _ (.of ((s.destroyRetired_writes a).trans (State.finish_writes _ _ _)) ((s.conserves_destroyRetired a).trans (State.conserves_finish _ _ _)))
  | deferredRollover a =>
    obtain rfl := Host.Outcome.next.inj h
    split
    · exact .writes _ (.of ((s.deferredRollover_writes a).trans (State.pump_writes _)) ((s.conserves_deferredRollover a).trans (State.conserves_pump _)))
    · exact .none s
  | deferredIngressRollover a =>
    obtain rfl := Host.Outcome.next.inj h
    split
    · exact .writes _ (.of ((s.deferredRollover_writes a).trans (State.pump_writes _)) ((s.conserves_deferredRollover a).trans (State.conserves_pump _)))
    · exact .none s
  | drainEnd a => exact Host.Outcome.next.inj h ▸ .writes _ (.of ((s.drainEnd_writes a).trans (State.finish_writes _ _ _)) ((s.conserves_drainEnd a).trans (State.conserves_finish _ _ _)))
  | unwrapDone => exact Host.Outcome.next.inj h ▸ .unwrapped
  | installComplete => exact Host.Outcome.next.inj h ▸ .expanded
  | purgeVisit => exact Host.Outcome.next.inj h ▸ .writes _ (.of s.purgeVisit_writes s.conserves_purgeVisit)
  | purgeRecordFinished => exact Host.Outcome.next.inj h ▸ .writes _ (.of s.purgeRecordFinished_writes s.conserves_purgeRecordFinished)
  | coverTimerExpiry n => exact Host.Outcome.next.inj h ▸ .writes _ ⟨s.coverExpiry_writes n, fun hs => State.buffersSound_coverExpiry hs n⟩
  | zeroizeInput =>
    obtain rfl := Host.Outcome.next.inj h
    split
    next => exact .none s
    next hr => exact .zeroizeInput (by simpa using hr)
  | programmingComplete => exact Host.Outcome.next.inj h ▸ .programmed
  | hostFrameReceived bs => exact Host.Outcome.next.inj h ▸ .received bs
  | interByteTimeout bs => exact Host.Outcome.next.inj h ▸ .abandoned bs
  | controlFrameSent => exact Host.Outcome.next.inj h ▸ .frameSent
  | unknownRequest => exact State.unknownRequest_event h
  | identify =>
    exact Host.Outcome.next.inj h ▸ s.runOnce_event _ _ _ _ fun q ha => State.withBody_event ha (State.event_reply ha (.now s _ _ _))
  | deviceStatus =>
    exact Host.Outcome.next.inj h ▸ s.runOnce_event _ _ _ _ fun q ha =>
      State.withBody_event ha (State.event_reply ha (.once (.off State.Write.clearLost.writes rfl) _ _ _))
  | softReset => exact Host.Outcome.next.inj h ▸ s.runOnce_event _ _ _ _ fun q ha => State.withBody_event ha (.softReset ha)
  | zeroize => exact Host.Outcome.next.inj h ▸ s.runOnce_event _ _ _ _ fun q ha => State.withBody_event ha (.zeroize ha)
  | setLinkMode =>
    exact Host.Outcome.next.inj h ▸ s.runOnce_event _ _ _ _ fun q ha =>
      State.withBody_event ha (State.event_reply ha (State.setLinkMode_replies q s))
  | setLinkParams =>
    exact Host.Outcome.next.inj h ▸ s.runOnce_event _ _ _ _ fun q ha =>
      State.withBody_event ha (State.event_reply ha (State.setLinkParams_replies q s))
  | readLink => exact Host.Outcome.next.inj h ▸ s.runRepeat_event _ fun q i _ => State.readLinkItem_acts q i s
  | readCounters => exact Host.Outcome.next.inj h ▸ s.runRepeat_event _ fun q i _ => State.readCountersItem_acts q i s
  | setRangeRule => exact Host.Outcome.next.inj h ▸ s.runRepeat_event _ fun q i _ => State.setRangeRuleItem_acts q i s
  | addFlow =>
    exact Host.Outcome.next.inj h ▸ s.runOnce_event _ _ _ _ fun q ha =>
      State.withBody_event ha (State.event_reply ha (State.addFlowRequest_replies q s))
  | removeFlow =>
    exact Host.Outcome.next.inj h ▸ s.runOnce_event _ _ _ _ fun q ha =>
      State.withBody_event ha (State.event_reply ha (State.removeFlowRequest_replies q s))
  | readFlow => exact Host.Outcome.next.inj h ▸ s.runRepeat_event _ fun q i _ => .refl s
  | openAssoc =>
    exact Host.Outcome.next.inj h ▸ s.runOnce_event _ _ _ _ fun q ha =>
      State.withBody_event ha (State.event_reply ha (State.openAssoc_replies q s))
  | setAssoc => exact Host.Outcome.next.inj h ▸ s.recordRepeat_event _ _ _ _ _ fun q a _ => State.setAssocItem_acts q a s
  | readAssoc => exact Host.Outcome.next.inj h ▸ s.recordRepeat_event _ _ _ _ _ fun q a _ => .refl s
  | testAssoc => exact Host.Outcome.next.inj h ▸ s.recordRepeat_event _ _ _ _ _ fun q a _ => s.afterTest_acts a q.cond
  | installKey => exact Host.Outcome.next.inj h ▸ s.runOnce_event _ _ _ _ fun q ha => State.installRequest_event q s ha
  | rollover =>
    exact Host.Outcome.next.inj h ▸ s.runOnce_event _ _ _ _ fun q ha =>
      State.withBody_event ha (State.event_reply ha (State.rolloverRequest_replies q s))
  | retire => exact Host.Outcome.next.inj h ▸ s.recordRepeat_event _ _ _ _ _ fun q a ha => State.retireItem_acts q a s ha
  | release => exact Host.Outcome.next.inj h ▸ s.recordRepeat_event _ _ _ _ _ fun q a _ => State.releaseItem_acts q a s
  | purge =>
    exact Host.Outcome.next.inj h ▸ s.runOnce_event _ _ _ _ fun q ha =>
      State.withBody_event ha (State.event_reply ha (State.purgeRequest_replies q s ha))
  | purgeSuspend =>
    exact Host.Outcome.next.inj h ▸ s.runOnce_event _ _ _ _ fun q ha => State.withBody_event ha (s.suspendPurge_event ha)
  | purgeResume =>
    exact Host.Outcome.next.inj h ▸ s.runOnce_event _ _ _ _ fun q ha => State.withBody_event ha (State.event_reply ha s.resumePurge_replies)
  | purgeCancel =>
    exact Host.Outcome.next.inj h ▸ s.runOnce_event _ _ _ _ fun q ha => State.withBody_event ha (s.cancelPurge_event ha)
  | storeStatus =>
    exact Host.Outcome.next.inj h ▸ s.runOnce_event _ _ _ _ fun q ha => State.withBody_event ha (State.event_reply ha (.now s _ _ _))
  | provisionWrite =>
    exact Host.Outcome.next.inj h ▸ s.runOnce_event _ _ _ _ fun q ha => State.withBody_event ha (State.provisionWrite_event q s ha)
  | provisionLock =>
    exact Host.Outcome.next.inj h ▸ s.runOnce_event _ _ _ _ fun q ha => State.withBody_event ha (State.provisionLock_event q s ha)
  | provisionRead =>
    exact Host.Outcome.next.inj h ▸ s.runOnce_event _ _ _ _ fun q ha =>
      State.withBody_event ha (State.event_reply ha (State.provisionRead_replies q s))
  | frameLengthOutOfRange bs => exact Host.Outcome.next.inj h ▸ .received bs
  | framingError bs => exact Host.Outcome.next.inj h ▸ .abandoned bs

/-- RESET, power-on, or an event. -/
theorem exec_cases {i : Instr} {s t : State} (h : exec i s = .next t) :
    s.Event t ∨ (i = .hardReset ∧ t = s.assertReset) ∨ ∃ c w, i = .powerOn c w ∧ t = s.powerOn c w := by
  by_cases hreset : i = .hardReset
  · subst hreset
    exact .inr (.inl ⟨rfl, (Host.Outcome.next.inj h).symm⟩)
  · by_cases hpower : ∃ c w, i = .powerOn c w
    · obtain ⟨c, w, rfl⟩ := hpower
      exact .inr (.inr ⟨c, w, rfl, (Host.Outcome.next.inj h).symm⟩)
    · exact .inl (exec_event hreset (fun c w hi => hpower ⟨c, w, hi⟩) h)

/-- What every event, RESET, power-on and every tick of the clock keeps, every step keeps. -/
theorem step_keeps {P : State → Prop} (hpending : ∀ s v, P s → P (s.withPending v)) (hnow : ∀ s v, P s → P (s.withNow v))
    (hreset : ∀ s, P s → P s.assertReset) (hpower : ∀ s c w, P s → P (s.powerOn c w))
    (hevent : ∀ s t, P s → s.Event t → P t) {s t : State} (hs : P s) (h : step s = .next t) : P t := by
  unfold step at h
  split at h
  next i rest _ =>
    have hs' := hpending s rest hs
    obtain he | ⟨-, rfl⟩ | ⟨c, w, -, rfl⟩ := exec_cases h
    · exact hevent _ _ hs' he
    · exact hreset _ hs'
    · exact hpower _ c w hs'
  next => exact Host.Outcome.next.inj h ▸ hnow s _ hs

end Sys2Proof.Machine
end

section
/-! SUPPORT. Zeroization, soft reset and hard reset as one write of each part of the State. -/

namespace Sys2Proof.Machine

/-! ### Zeroization (R122, R180) -/

/-- R122, R144: what a zeroization leaves of one direction of a link. -/
def Path.cleared (p : Path) : Path :=
  { p.emptied with pausing := false, resendAt := if p.pausing then none else p.resendAt }

/-- R122, R144: what a zeroization leaves of a port whose buffer was PAUSING or not. -/
def Port.cleared (p : Port) (pausing : Bool) : Port :=
  { (p.asked (if pausing then [.resume] else [])) with sending := false }

/-- R122, R180 step 4: what a zeroization leaves of a link. -/
def Link.cleared (l : Link) : Link :=
  { l with
    mode := .halt
    cover := { l.cover with nextAt := none, stalled := false }
    rack := l.rack.cleared l.egress.pausing
    campus := l.campus.cleared l.ingress.pausing
    egress := l.egress.cleared
    ingress := l.ingress.cleared }

/-- One queue of a link is cleared: its path, what is asked of the port that feeds it, and the port that its head leaves through. -/
def Link.clearedDir (l : Link) (d : Dir) : Link :=
  let l1 := (l.setPath d (l.path d).cleared).setPort (feedSide d)
    ((l.port (feedSide d)).asked (if (l.path d).pausing then [.resume] else []))
  l1.setPort (sendSide d) { l1.port (sendSide d) with sending := false }

theorem State.endPausing_eq (s : State) (d : Dir) (n : LinkId) : s.endPausing d n
    = (s.setPath d n { s.path d n with pausing := false, resendAt := if (s.path d n).pausing then none else (s.path d n).resendAt }).setPort
        (feedSide d) n ((s.port (feedSide d) n).asked (if (s.path d n).pausing then [.resume] else [])) := by
  unfold State.endPausing
  dsimp only
  split
  next h => simp [State.askPause_eq]
  next h =>
    have hp : { s.path d n with pausing := false, resendAt := (s.path d n).resendAt } = s.path d n := by
      rcases hp : s.path d n with ⟨f, p, _, _, _, _⟩
      simp_all
    simp [hp]

theorem State.clearQueue_eq (s : State) (d : Dir) (n : LinkId) : s.clearQueue d n = s.setLink n ((s.link n).clearedDir d) := by
  unfold State.clearQueue
  rw [State.endPausing_eq]
  cases d <;> simp [State.setPath, State.setPort, State.port, State.path, Link.clearedDir, Path.cleared, Path.emptied]

theorem State.clearLink_eq (s : State) (n : LinkId) : s.clearLink n = s.setLink n (s.link n).cleared := by
  unfold State.clearLink
  simp only [State.clearQueue_eq, State.setLink_setLink, State.link_setLink_same]
  rfl

/-- R122, R180 step 4: every link is cleared. -/
theorem State.clearLinks_eq (s : State) : s.clearLinks = s.withLinks (s.links.map Link.cleared) := by
  have hlink : ∀ m, s.clearLinks.link m = (s.link m).cleared := by
    intro m
    simp only [State.clearLinks, State.clearLink_eq]
    match m with
    | 0 | 1 | 2 | 3 => simp [State.link_setLink_ne]
  have hlinks : s.clearLinks.links = s.links.map Link.cleared := by
    refine Vector.ext fun i hi => ?_
    simpa [State.link] using hlink ⟨i, hi⟩
  rw [← hlinks]
  simp only [State.clearLinks, State.clearLink_eq]
  rfl

/-- R180 steps 1 to 4. -/
theorem State.zeroizeAll_eq (s : State) : s.zeroizeAll =
    { s with
      records := s.records.map fun r => Record.blank r.generation
      bank := s.bank.zeroize
      links := s.links.map Link.cleared
      lanes := s.lanes.map Lane.abort
      lastGrant := 7 } := by
  unfold State.zeroizeAll
  rw [State.clearLinks_eq]
  rfl

@[simp] theorem State.record_zeroizeAll (s : State) (a : AssocId) : s.zeroizeAll.record a = Record.blank (s.record a).generation := by
  simp [State.zeroizeAll_eq, State.record]

@[simp] theorem State.link_zeroizeAll (s : State) (n : LinkId) : s.zeroizeAll.link n = (s.link n).cleared := by
  simp [State.zeroizeAll_eq, State.link]

@[simp] theorem State.lane_zeroizeAll (s : State) (l : LaneId) : s.zeroizeAll.lane l = (s.lane l).abort := by
  simp [State.zeroizeAll_eq, State.lane]

@[simp] theorem State.path_zeroizeAll (s : State) (d : Dir) (n : LinkId) : s.zeroizeAll.path d n = (s.path d n).cleared := by
  cases d <;> simp [State.path, Link.path, Link.cleared]

@[simp] theorem State.control_zeroizeAll (s : State) : s.zeroizeAll.control = s.control := by rw [State.zeroizeAll_eq]

@[simp] theorem State.device_zeroizeAll (s : State) : s.zeroizeAll.device = s.device := by rw [State.zeroizeAll_eq]

@[simp] theorem State.bank_zeroizeAll (s : State) : s.zeroizeAll.bank = s.bank.zeroize := by rw [State.zeroizeAll_eq]

@[simp] theorem State.flow_zeroizeAll (s : State) : s.zeroizeAll.flow = s.flow := by rw [State.zeroizeAll_eq]

@[simp] theorem State.prov_zeroizeAll (s : State) : s.zeroizeAll.prov = s.prov := by rw [State.zeroizeAll_eq]

@[simp] theorem State.pending_zeroizeAll (s : State) : s.zeroizeAll.pending = s.pending := by rw [State.zeroizeAll_eq]

/-- R122, R138, R144: queues, buffers and ports after a zeroization. -/
theorem State.trafficCleared_of_links {s t : State} (h : ∀ n, (t.link n).rack = (s.link n).cleared.rack
    ∧ (t.link n).campus = (s.link n).cleared.campus
    ∧ ∀ d, ((t.link n).path d).queue = [] ∧ ((t.link n).path d).stored = ((s.link n).path d).stored
      ∧ ((t.link n).path d).free = ((s.link n).path d).cleared.free ∧ ((t.link n).path d).pausing = false
      ∧ ((t.link n).path d).resendAt = ((s.link n).path d).cleared.resendAt) : s.trafficCleared t := by
  refine ⟨fun d n => ⟨((h n).2.2 d).1, ((h n).2.2 d).2.1, ?_, ((h n).2.2 d).2.2.2.1, ?_⟩, fun side n => ?_⟩
  · exact ((h n).2.2 d).2.2.1
  · exact ((h n).2.2 d).2.2.2.2
  · have hask : ∀ (p : Port) (b : Bool), (if p.up then (if b then [PauseKind.resume] else []) else [])
        = if b && p.up then [.resume] else [] := by
      intro p b
      cases b <;> simp
    obtain ⟨hr, hc, -⟩ := h n
    cases side
    · rw [show t.port .rack n = _ from hr]
      exact ⟨rfl, rfl, rfl, rfl, rfl, congrArg _ (hask _ _)⟩
    · rw [show t.port .campus n = _ from hc]
      exact ⟨rfl, rfl, rfl, rfl, rfl, congrArg _ (hask _ _)⟩

/-- R41, R96, R122, R180: what a zeroization leaves, whatever is done to the device, the last results and the control unit. -/
theorem State.zeroizedTo_zeroizeAll (s : State) : s.zeroizedTo s.zeroizeAll := by
  refine ⟨s.record_zeroizeAll, by simp [BankUnit.zeroize], by simp [BankUnit.zeroize], by simp [BankUnit.zeroize],
    s.lane_zeroizeAll, by rw [State.zeroizeAll_eq], ?_, ?_, ?_, ?_⟩
  · refine State.trafficCleared_of_links fun n => ?_
    rw [State.link_zeroizeAll]
    refine ⟨rfl, rfl, fun d => ?_⟩
    cases d <;> exact ⟨rfl, rfl, rfl, rfl, rfl⟩
  · intro d n
    rw [State.path_zeroizeAll]
    rfl
  · intro n
    rw [State.link_zeroizeAll]
    exact ⟨rfl, rfl, rfl⟩
  · rw [State.zeroizeAll_eq]
    exact ⟨rfl, rfl, rfl, rfl, rfl⟩

/-- R180, R181: a zeroization with what follows it: the count, and the control unit. -/
theorem State.zeroizeFrom_eq (s : State) (src : ZeroizeSource) :
    ∃ c, s.zeroizeFrom src = (s.zeroizeAll.withDevice { s.device with zeroizeCount := min 65535 (s.device.zeroizeCount + 1) }).withControl c := by
  unfold State.zeroizeFrom State.countZeroize
  rw [State.device_zeroizeAll]
  generalize s.zeroizeAll = z
  exact ⟨_, rfl⟩

theorem State.zeroizeByRequest_pump (s : State) : ∃ c, s.zeroizeByRequest.pump
    = (s.zeroizeAll.withDevice { s.device with zeroizeCount := min 65535 (s.device.zeroizeCount + 1) }).withControl c := by
  obtain ⟨c, hc⟩ := s.zeroizeFrom_eq .request
  unfold State.zeroizeByRequest
  rw [hc]
  generalize s.zeroizeAll = z
  exact ⟨_, rfl⟩

theorem State.answerCut_eq_withControl (s : State) : ∃ c, s.answerCut = s.withControl c := by
  unfold State.answerCut
  split
  · exact ⟨_, rfl⟩
  · exact ⟨_, rfl⟩
  · exact ⟨_, rfl⟩
  · exact ⟨s.control, rfl⟩
  · exact ⟨s.control, rfl⟩

theorem State.zeroizeInput_pump (s : State) : ∃ c, (s.zeroizeFrom .input).answerCut.pump
    = (s.zeroizeAll.withDevice { s.device with zeroizeCount := min 65535 (s.device.zeroizeCount + 1) }).withControl c := by
  obtain ⟨c, hc⟩ := s.zeroizeFrom_eq .input
  obtain ⟨c', hc'⟩ := (s.zeroizeFrom .input).answerCut_eq_withControl
  rw [hc', hc]
  generalize s.zeroizeAll = z
  exact ⟨_, rfl⟩

/-! ### Soft reset (R182) -/

/-- R182: the soft reset before its reply, as one write of each part. -/
theorem State.softResetAll_eq (s : State) : s.softResetAll =
    { s with
      records := s.records.map fun r => Record.blank r.generation
      bank := { s.bank.zeroize with lastPurge := .none, lastInstall := none }
      flow := s.flow.clearHits
      links := s.links.map fun l => l.cleared.clearCounters
      lanes := s.lanes.map Lane.abort
      lastGrant := 7
      control := s.control.softReset } := by
  unfold State.softResetAll
  rw [State.zeroizeAll_eq]
  simp only [State.withFlow, State.withLinks, State.withBank, State.withControl, Vector.map_map]
  rfl

theorem State.softReset_pump (s : State) (st : Status) (fl : Flags) (body : Bytes) :
    ∃ c, (s.softResetAll.answerOnce st fl body).pump = s.softResetAll.withControl c := by
  generalize s.softResetAll = z
  exact ⟨_, rfl⟩

@[simp] theorem State.record_softResetAll (s : State) (a : AssocId) : s.softResetAll.record a = Record.blank (s.record a).generation := by
  simp [State.softResetAll_eq, State.record]

@[simp] theorem State.link_softResetAll (s : State) (n : LinkId) : s.softResetAll.link n = (s.link n).cleared.clearCounters := by
  simp [State.softResetAll_eq, State.link]

@[simp] theorem State.lane_softResetAll (s : State) (l : LaneId) : s.softResetAll.lane l = (s.lane l).abort := by
  simp [State.softResetAll_eq, State.lane]

/-! ### Hard reset (R183) -/

@[simp] theorem State.record_hardResetNow (s : State) (a : AssocId) : s.hardResetNow.record a = Record.blank 0 := by
  simp [State.hardResetNow, State.record]

@[simp] theorem State.link_hardResetNow (s : State) (n : LinkId) :
    s.hardResetNow.link n = Link.blank (s.link n).rack.signal (s.link n).campus.signal := by
  simp [State.hardResetNow, State.link]

@[simp] theorem State.lane_hardResetNow (s : State) (l : LaneId) : s.hardResetNow.lane l = .failed := by
  simp [State.hardResetNow, State.lane]

theorem State.hardResetTo_hardResetNow (s : State) : s.hardResetTo s.hardResetNow :=
  ⟨s.record_hardResetNow, rfl, rfl, rfl, s.link_hardResetNow, s.lane_hardResetNow, rfl, rfl⟩

/-- What a hard reset leaves does not depend on the clock, the device, the provisioning area and the queue of commands. -/
theorem State.hardResetTo.of_links {s t : State} (h : t.links = s.links) : s.hardResetTo t.hardResetNow := by
  have hlink : ∀ n, t.link n = s.link n := fun n => by simp [State.link, h]
  exact ⟨t.record_hardResetNow, rfl, rfl, rfl, fun n => by rw [t.link_hardResetNow, hlink], t.lane_hardResetNow, rfl, rfl⟩

end Sys2Proof.Machine
end

section
/-! SUPPORT. The ends of installs, the grants and the completions of lanes, as writes around one change that no write makes. -/

namespace Sys2Proof.Machine

/-! ### A completed install (R50, R126) -/

/-- R50: the finished key in its slot, and the end of the install. -/
def State.installed (s : State) (i : Install) (key salt : Bytes) : State :=
  let r1 := (s.record i.index).setTarget i.toNxt (some (installedKey (s.record i.index) i key salt))
  (s.setRecord i.index (if i.toNxt then r1 else { r1 with state := .live })).endInstall i .ok

/-- R126: every entry of a hold that is left is entered under the key of phase `p` and counted in flight. -/
def State.admitHeld (s : State) (n : LinkId) (a : AssocId) (p : Phase) : State :=
  (s.setQueue .ingress n ((s.path .ingress n).queue.map (enterHeld a p))).setRecord a
    ((s.record a).mapKey p fun k => { k with inFlight := k.inFlight + ((s.path .ingress n).queue.filter (Entry.isHeldOf a)).length })

theorem heldFails_isHeldOf {a : AssocId} {k : Key} {e : Entry} {why : Reason} (h : heldFails a k e = some why) : e.isHeldOf a = true := by
  unfold heldFails at h
  split at h
  next hheld => exact hheld
  next => simp at h

theorem State.dropFails_writes (s : State) (n : LinkId) (a : AssocId) (k : Key) (why : Reason) :
    s.Writes (s.dropEntries .ingress n (fun e => heldFails a k e == some why) why) :=
  s.dropEntries_writes .ingress n _ why fun _ _ h => Entry.atRest_of_isHeldOf (heldFails_isHeldOf (beq_iff_eq.1 h))

/-- R126: the entries of a hold that fail are dropped, then the others are entered. -/
theorem State.releaseIngressHold_steps (s : State) (a : AssocId) (k : Key) :
    ∃ u, s.Writes u ∧ (∀ b, u.record b = s.record b) ∧ u.control = s.control ∧ u.bank = s.bank
      ∧ s.releaseIngressHold a k = u.admitHeld (s.record a).link a k.phase := by
  refine ⟨_, ?_, ?_, ?_, ?_, rfl⟩
  · exact (((s.dropFails_writes _ a k .unknownPhase).trans (State.dropFails_writes _ _ a k .badPn)).trans
      (State.dropFails_writes _ _ a k .late)).trans (State.dropFails_writes _ _ a k .duplicate)
  · simp
  · simp
  · simp

/-- R50, R126: the completed install, with the held envelopes that its key lets in. -/
def State.admitted (s : State) (i : Install) (key salt : Bytes) : State :=
  if i.toNxt = true ∧ (s.record i.index).dir = .ingress then
    (s.installed i key salt).releaseIngressHold i.index (installedKey (s.record i.index) i key salt)
  else s.installed i key salt

/-- R126: a completed install is its key in the slot, or that with the held envelopes entered. -/
theorem State.admitted_cases (s : State) (i : Install) (key salt : Bytes) :
    ((i.toNxt = true → (s.record i.index).dir = .egress) ∧ s.admitted i key salt = s.installed i key salt)
    ∨ (i.toNxt = true ∧ ∃ (u : State) (n : LinkId), (s.installed i key salt).Writes u
        ∧ (∀ b, u.record b = (s.installed i key salt).record b)
        ∧ u.control = s.control ∧ u.bank = (s.installed i key salt).bank ∧ s.admitted i key salt = u.admitHeld n i.index i.phase) := by
  unfold State.admitted
  split
  next h =>
    obtain ⟨u, hw, hr, hc, hb, he⟩ := (s.installed i key salt).releaseIngressHold_steps i.index (installedKey (s.record i.index) i key salt)
    exact .inr ⟨h.1, u, _, hw, hr, hc, hb, he⟩
  next h =>
    refine .inl ⟨fun ht => ?_, rfl⟩
    rcases hd : (s.record i.index).dir
    · rfl
    · exact absurd ⟨ht, hd⟩ h

/-- R50: the completed install leaves the control unit and ends the install. -/
theorem State.admitted_frame (s : State) (i : Install) (key salt : Bytes) : (s.admitted i key salt).control = s.control
    ∧ (s.admitted i key salt).bank = { s.bank with install := none, lastInstall := some (.ok, i.index) }
    ∧ (s.admitted i key salt).prov = s.prov := by
  obtain ⟨-, h⟩ | ⟨-, u, n, hw, -, hc, hb, h⟩ := s.admitted_cases i key salt
  · rw [h]
    exact ⟨rfl, rfl, rfl⟩
  · obtain ⟨-, -, -, -, hp, -⟩ := hw.frame
    rw [h]
    exact ⟨hc, hb, hp⟩

/-- R50, R73, R126: what a completed install lets go ahead, before its reply. -/
theorem State.completeInstall_steps (s : State) (i : Install) (key salt : Bytes) :
    ∃ (u : State) (body : Bytes), (s.admitted i key salt).Writes u
      ∧ s.completeInstall i key salt = (u.answerOnce .ok Flags.none body).finish (s.record i.index).dir (s.record i.index).link := by
  refine ⟨if i.toNxt then (s.admitted i key salt).deferredRollover i.index else s.admitted i key salt, _, ?_, rfl⟩
  by_cases hn : i.toNxt = true
  · rw [if_pos hn]
    exact State.deferredRollover_writes _ i.index
  · simp only [hn, if_false, Bool.false_eq_true]
    exact State.Writes.none _

/-- The record of an install after it has been written. -/
theorem State.record_installed (s : State) (i : Install) (key salt : Bytes) (a : AssocId) : (s.installed i key salt).record a
    = (s.setRecord i.index (if i.toNxt then (s.record i.index).setTarget i.toNxt (some (installedKey (s.record i.index) i key salt))
        else { (s.record i.index).setTarget i.toNxt (some (installedKey (s.record i.index) i key salt)) with state := .live })).record a := by
  unfold State.installed State.endInstall
  rw [State.record_withBank]

theorem State.record_admitHeld (s : State) (n : LinkId) (a : AssocId) (p : Phase) (b : AssocId) : (s.admitHeld n a p).record b
    = (s.setRecord a ((s.record a).mapKey p fun k =>
        { k with inFlight := k.inFlight + ((s.path .ingress n).queue.filter (Entry.isHeldOf a)).length })).record b := rfl

/-! ### Grants (R119) -/

/-- R119, R120: a grant changes nothing, or takes the first WAITING entry of one queue for an IDLE lane. -/
theorem State.grant_cases (s : State) : s.grant = s ∨ ∃ (l : LaneId) (i : Fin 8) (d : Dir) (n : LinkId) (e : Entry),
    s.lane l = .idle ∧ (s.path d n).queue.find? (fun e => e.state == .waiting) = some e
      ∧ s.grant = ((s.setQueue d n (grantFirst l (s.path d n).queue)).setLane l (.busy d n (s.fetch n e))).withLastGrant i := by
  unfold State.grant
  split
  next l i hl hi =>
    dsimp only
    split
    next e he =>
      have hidle := List.find?_some hl
      exact .inr ⟨l, i, _, _, e, by simpa using hidle, he, rfl⟩
    next => exact .inl rfl
  next => exact .inl rfl

/-! ### Completions (R121, R131) -/

/-- R30: the in-flight count of the key that an entry refers to falls by 1. -/
def State.letGo (s : State) (e : Entry) : State :=
  match e.assoc, e.key with
  | some a, some p => s.setRecord a ((s.record a).mapKey p Key.letGo)
  | _, _ => s

theorem State.lowerCount_writes (s : State) (e : Entry) : (s.letGo e).Writes (s.lowerCount e) := by
  unfold State.lowerCount State.letGo
  rcases e.assoc with _ | a
  · exact State.Writes.none s
  · rcases e.key with _ | p
    · exact State.Writes.none s
    · exact State.storeActs_writes _ _

theorem State.recordTagFail_writes (s : State) (a : AssocId) (p : Phase) (pn : Nat) : s.Writes (s.recordTagFail a p pn) := by
  have hcount : s.Writes (s.setRecord a { s.record a with tagFails := sat48 (s.record a).tagFails 1 }) :=
    s.setRecord_writes a (.book _ rfl rfl rfl rfl id)
  unfold State.recordTagFail
  dsimp only
  split
  · split
    · exact hcount
    · generalize hr : { s.record a with tagFails := sat48 (s.record a).tagFails 1 } = r at hcount ⊢
      have hmark : (s.setRecord a r).Writes (s.setRecord a (r.mapKey p fun k => { k with tagFailed := true })) := by
        have := (State.Write.record (s := s.setRecord a r) a (r.mapKey p fun k => { k with tagFailed := true })
          (by rw [State.record_setRecord_same]; exact .mapKey p _ fun _ => ⟨rfl, rfl, rfl⟩)).writes
        rwa [State.setRecord_setRecord] at this
      exact (hcount.trans hmark).trans (State.notify_writes _ _)
  · exact hcount

/-- R121: the entry of a lane that has finished is rewritten in its place, and no entry is left in the lane. -/
theorem State.completeEntry_steps (s : State) (l : LaneId) (d : Dir) (n : LinkId) (f : Fetched) (e : Entry) :
    ∃ (p : Path) (u : State) (g : Entry → Entry), s.pathStep u d n p ∧ p.queue = mapLane l g (s.path d n).queue
      ∧ (∀ e, (g e).atRest = true)
      ∧ (s.completeEntry l d n f e = u ∨ ∃ a p pn, s.completeEntry l d n f e = u.recordTagFail a p pn) := by
  unfold State.completeEntry
  split
  · exact ⟨_, _, fun e => { e with state := .done, data := buildEnvelope e f }, State.pathStep_setPath _ _ _ _, rfl, fun _ => rfl, .inl rfl⟩
  · split
    next data _ =>
      exact ⟨_, _, fun e => { e with state := .verified, data := data }, State.pathStep_setPath _ _ _ _, rfl, fun _ => rfl, .inl rfl⟩
    next =>
      obtain ⟨p, hstep, -, -, hq, -⟩ := s.dropEntries_spec .ingress n (fun e => e.state == .inLane l) .tagFail
      refine ⟨p, _, fun e => e.drop .tagFail, hstep, ?_, fun _ => rfl, ?_⟩
      · rw [hq]
        refine List.map_congr_left fun x _ => ?_
        by_cases hx : x.state = .inLane l
        · simp [hx, Entry.isDropped]
        · simp [hx]
      · split
        · exact .inr ⟨_, _, _, rfl⟩
        · exact .inl rfl

/-- R121: what the completion of a BUSY lane is made of: the lane becomes IDLE, its entry is rewritten, the count of the entry's key
falls, and the rest are writes. -/
theorem State.completeLane_cases (s : State) (l : LaneId) :
    s.completeLane l = s ∨ ∃ (d : Dir) (n : LinkId) (f : Fetched), s.lane l = .busy d n f
      ∧ (((s.path d n).queue.find? (fun e => e.state == .inLane l) = none ∧ s.completeLane l = s.setLane l .idle)
        ∨ ∃ (e : Entry) (p : Path) (u v : State) (g : Entry → Entry),
            (s.path d n).queue.find? (fun e => e.state == .inLane l) = some e
            ∧ (s.setLane l .idle).pathStep u d n p ∧ p.queue = mapLane l g (s.path d n).queue ∧ (∀ e, (g e).atRest = true)
            ∧ (v = u ∨ ∃ a p pn, v = u.recordTagFail a p pn) ∧ (v.letGo e).Writes (s.completeLane l)) := by
  unfold State.completeLane
  split
  next d n f hbusy =>
    refine .inr ⟨d, n, f, hbusy, ?_⟩
    dsimp only
    split
    next e he =>
      obtain ⟨p, u, g, hstep, hq, hg, hw⟩ := (s.setLane l .idle).completeEntry_steps l d n f e
      exact .inr ⟨e, p, u, _, g, he, hstep, hq, hg, hw, (State.lowerCount_writes _ e).trans (State.finish_writes _ d n)⟩
    next hnone => exact .inl ⟨by simpa using hnone, rfl⟩
  next => exact .inl rfl

theorem State.completed_writes {u v : State} (h : v = u ∨ ∃ a p pn, v = u.recordTagFail a p pn) : u.Writes v := by
  obtain rfl | ⟨a, p, pn, rfl⟩ := h
  · exact State.Writes.none v
  · exact u.recordTagFail_writes a p pn

theorem State.letGo_frame (s : State) (e : Entry) : (s.letGo e).control = s.control ∧ (s.letGo e).bank = s.bank ∧ (s.letGo e).prov = s.prov
    ∧ (s.letGo e).pending = s.pending ∧ (s.letGo e).device = s.device ∧ (s.letGo e).links = s.links ∧ (s.letGo e).flow = s.flow
    ∧ (s.letGo e).lanes = s.lanes := by
  unfold State.letGo
  split <;> exact ⟨rfl, rfl, rfl, rfl, rfl, rfl, rfl, rfl⟩

end Sys2Proof.Machine
end

section
/-! SUPPORT. The receive line's bounds, and the control unit through every event. -/

namespace Sys2Proof.Machine

/-! ### The receive line (R161 to R163) -/

/-- What bytes on the receive line leave of the control unit: the execution, the request at the head, and every bound. -/
structure Control.Heard (c c' : Control) : Prop where
  exec : c'.exec = c.exec
  executed : c'.executed ≤ c.executed
  head : c.requests ≠ [] → c'.requests ≠ []
  requests : c.requests.length ≤ Config.requestPlaces → c'.requests.length ≤ Config.requestPlaces
  notices : c.notices.length ≤ Config.noticePlaces → c'.notices.length ≤ Config.noticePlaces
  refusals : c.refusals ≤ Config.refusalPlaces → c'.refusals ≤ Config.refusalPlaces

theorem Control.Heard.refl (c : Control) : c.Heard c := ⟨rfl, le_rfl, id, id, id, id⟩

theorem Control.Heard.trans {c c' c'' : Control} (h : c.Heard c') (h' : c'.Heard c'') : c.Heard c'' :=
  ⟨h'.exec.trans h.exec, h'.executed.trans h.executed, fun hn => h'.head (h.head hn), fun hn => h'.requests (h.requests hn),
    fun hn => h'.notices (h.notices hn), fun hn => h'.refusals (h.refusals hn)⟩

theorem Control.Quiet.heard {c c' : Control} (h : c.Quiet c') : c.Heard c' :=
  ⟨h.exec, h.executed, fun hn => h.requests ▸ hn, fun hn => h.requests ▸ hn, h.notices, fun hn => h.refusals.trans hn⟩

/-- R163: a request joins the queue, is answered QUEUE-FULL, or is lost. -/
theorem Control.heard_enqueue (c : Control) (q : Request) : c.Heard (c.enqueue q) := by
  unfold Control.enqueue
  split
  next h => exact ⟨rfl, le_rfl, by simp, fun _ => by simpa using h, id, id⟩
  next =>
    split
    next h =>
      refine ⟨rfl, by simp [Control.executed], id, id, id, fun _ => ?_⟩
      unfold Control.refusals at h ⊢
      simpa using h
    next => exact ⟨rfl, le_rfl, id, id, id, id⟩

theorem Control.heard_receiver (c : Control) (r : Receiver) : c.Heard { c with receiver := r } := ⟨rfl, le_rfl, id, id, id, id⟩

theorem Control.heard_complete (c : Control) (size : Nat) (content crc : Bytes) : c.Heard (c.complete size content crc) := by
  unfold Control.complete
  dsimp only
  have hhunt := c.heard_receiver .hunt
  split
  · split
    · exact (hhunt.trans (Control.heard_enqueue _ _)).trans (Control.quiet_pump _).heard
    · exact hhunt
  · exact hhunt

theorem Control.heard_receive (c : Control) (b : Byte) : c.Heard (c.receive b) := by
  unfold Control.receive
  split
  case h_1 =>
    split
    · exact c.heard_receiver _
    · exact .refl c
  case h_2 got =>
    dsimp only
    split
    · exact c.heard_receiver _
    · split <;> exact c.heard_receiver _
  case h_3 size got =>
    dsimp only
    split <;> exact c.heard_receiver _
  case h_4 size content got =>
    dsimp only
    split
    · exact c.heard_receiver _
    · exact c.heard_complete _ _ _

theorem Control.heard_receiveAll (c : Control) (bs : Bytes) : c.Heard (c.receiveAll bs) := by
  unfold Control.receiveAll
  induction bs generalizing c with
  | nil => exact .refl c
  | cons b bs ih => exact (c.heard_receive b).trans (ih _)

theorem State.controlSound_of_heard {s t : State} (h : s.controlSound) (hh : s.control.Heard t.control)
    (hi : t.bank.install = s.bank.install) (hs : t.bank.stop = s.bank.stop) (hp : t.prov.programming = s.prov.programming) :
    t.controlSound := by
  obtain ⟨h1, h2, h3, h4, h5, h6, h7, h8⟩ := h
  have hexecuted := hh.executed
  refine ⟨hh.requests h1, hh.notices h2, hh.refusals h3, hexecuted.trans h4, ?_, ?_, ?_, ?_⟩
  · rw [hh.exec]
    intro hne
    obtain ⟨hz, hr⟩ := h5 hne
    exact ⟨by omega, hh.head hr⟩
  · rwa [hi, hh.exec]
  · rwa [hs, hh.exec]
  · rwa [hp, hh.exec]

/-- The bounds speak of the control unit, the install, the stop and the programming operation only. -/
theorem State.controlSound_congr {s t : State} (h : s.controlSound) (hc : t.control = s.control) (hi : t.bank.install = s.bank.install)
    (hs : t.bank.stop = s.bank.stop) (hp : t.prov.programming = s.prov.programming) : t.controlSound :=
  State.controlSound_of_heard h (hc ▸ .refl _) hi hs hp

theorem State.controlSound_pump {s : State} (h : s.controlSound) : s.pump.controlSound := (State.Write.pump).controlSound h

/-! ### Requests that are attended (R164) -/

/-- A control unit within its bounds, with no executed reply and a request at the head. -/
def Control.Attends (c : Control) : Prop :=
  c.requests.length ≤ Config.requestPlaces ∧ c.notices.length ≤ Config.noticePlaces ∧ c.refusals ≤ Config.refusalPlaces
    ∧ c.executed = 0 ∧ c.requests ≠ []

theorem Control.Attends.quiet {c c' : Control} (h : c.Attends) (hq : c.Quiet c') : c'.Attends := by
  obtain ⟨h1, h2, h3, h4, h5⟩ := h
  exact ⟨hq.requests ▸ h1, hq.notices h2, hq.refusals.trans h3, Nat.le_zero.1 (h4 ▸ hq.executed), hq.requests ▸ h5⟩

theorem Control.Attends.withExec {c : Control} (h : c.Attends) (e : Execution) : ({ c with exec := e } : Control).Attends := h

theorem State.attends_of_attending {s : State} (hc : s.controlSound) (ha : s.attending) : s.control.Attends := by
  obtain ⟨-, -, -, hz⟩ := State.install_none_of_attending hc ha
  obtain ⟨h1, h2, h3, -⟩ := hc
  exact ⟨h1, h2, h3, hz, ha.1⟩

/-- R164: a request that is being executed has no reply waiting before it. -/
theorem State.attends_of_exec {s : State} (hc : s.controlSound) (h : s.control.exec ≠ .idle) : s.control.Attends := by
  obtain ⟨h1, h2, h3, -, h5, -⟩ := hc
  obtain ⟨hz, hne⟩ := h5 h
  exact ⟨h1, h2, h3, hz, hne⟩

theorem State.controlSound_answer {s : State} (ha : s.control.Attends) (hi : s.bank.install = none) (hs : s.bank.stop = .none)
    (hp : s.prov.programming = none) (st : Status) (fl : Flags) (k : Nat) (body : Bytes) : (s.answer st fl k body).controlSound := by
  obtain ⟨h1, h2, h3, hz, hne⟩ := ha
  exact State.controlSound_answered (s := s) (t := s.answer st fl k body) rfl h1 h2 h3 hz hne hi hs hp

theorem State.controlSound_attends {s : State} (ha : s.control.Attends) (hi : s.bank.install.isSome → s.control.exec = .installing)
    (hs : s.bank.stop ≠ .none → s.control.exec = .awaitingBoundary) (hp : s.prov.programming.isSome → s.control.exec = .programming) :
    s.controlSound := by
  obtain ⟨h1, h2, h3, hz, hne⟩ := ha
  exact ⟨h1, h2, h3, by omega, fun _ => ⟨hz, hne⟩, hi, hs, hp⟩

/-- While a request is attended, what is written for it keeps it attended, with nothing installed, stopped or programmed. -/
theorem State.Writes.attends {s u : State} (h : s.Writes u) (hc : s.controlSound) (ha : s.attending) :
    u.control.Attends ∧ u.bank.install = Option.none ∧ u.bank.stop = .none ∧ u.prov.programming = Option.none := by
  obtain ⟨hi, hs, hp, -⟩ := State.install_none_of_attending hc ha
  obtain ⟨-, -, -, -, hprov, hinstall⟩ := h.frame
  obtain ⟨hquiet, hstop⟩ := h.quiet hs
  exact ⟨(State.attends_of_attending hc ha).quiet hquiet, hinstall.trans hi, hstop, by rw [hprov, hp]⟩

theorem Control.attends_softReset {c : Control} (h : c.Attends) : c.softReset.Attends := by
  obtain ⟨h1, -, -, -, hne⟩ := h
  refine ⟨(List.length_take_le _ _).trans (by decide), Nat.zero_le _, Nat.zero_le _, rfl, ?_⟩
  rcases hr : c.requests with _ | ⟨q, rest⟩
  · exact absurd hr hne
  · simp [Control.softReset, hr]

/-! ### Zeroizations (R180, R181) -/

/-- R180, R181: what a zeroization does to the parts that the control unit's bounds speak of. -/
theorem State.zeroizeFrom_frame (s : State) (src : ZeroizeSource) : s.control.Quiet (s.zeroizeFrom src).control
    ∧ (s.zeroizeFrom src).bank = s.bank.zeroize ∧ (s.zeroizeFrom src).prov = s.prov ∧ (s.zeroizeFrom src).pending = s.pending := by
  unfold State.zeroizeFrom State.countZeroize
  refine ⟨?_, ?_, ?_, ?_⟩
  · simpa [State.notify, State.withControl, State.withDevice] using s.control.quiet_notify _
  · simp [State.withDevice]
  · simp [State.withDevice]
  · simp [State.withDevice]

theorem State.controlSound_answerCut {s : State} (src : ZeroizeSource) (hc : s.controlSound) : (s.zeroizeFrom src).answerCut.controlSound := by
  obtain ⟨hquiet, hbank, hprov, -⟩ := s.zeroizeFrom_frame src
  generalize s.zeroizeFrom src = t at *
  have hi : t.bank.install = none := by rw [hbank]; rfl
  have hs : t.bank.stop = .none := by rw [hbank]; rfl
  have hprog : s.control.exec ≠ .programming → t.prov.programming = none := by
    obtain ⟨-, -, -, -, -, -, -, h8⟩ := hc
    intro hne
    rw [hprov]
    rcases hp : s.prov.programming with _ | p
    · rfl
    · exact absurd (h8 (by simp [hp])) hne
  have hanswer : ∀ (st : Status) (fl : Flags) (k : Nat) (body : Bytes), t.control.exec ≠ .idle → t.control.exec ≠ .programming →
      (t.answer st fl k body).controlSound := fun st fl k body hx hp =>
    State.controlSound_answer ((State.attends_of_exec hc (hquiet.exec ▸ hx)).quiet hquiet) hi hs (hprog (hquiet.exec ▸ hp)) st fl k body
  have hsame : t.controlSound := by
    have hheard := State.controlSound_of_heard (t := s.withControl t.control) hc hquiet.heard rfl rfl rfl
    obtain ⟨h1, h2, h3, h4, h5, -, -, h8⟩ := hheard
    exact ⟨h1, h2, h3, h4, h5, by simp [hi], fun h => absurd hs h, hprov ▸ h8⟩
  unfold State.answerCut
  split
  next hx => exact hanswer _ _ _ _ (by simp [hx]) (by simp [hx])
  next hx => exact hanswer _ _ _ _ (by simp [hx]) (by simp [hx])
  next hx => exact hanswer _ _ _ _ (by simp [hx]) (by simp [hx])
  next => exact hsame
  next => exact hsame

theorem Provisioning.finish_programming (p : Provisioning) : p.finish.programming = none := by
  unfold Provisioning.finish
  split
  · rfl
  · rfl
  · rfl
  next h => exact h

theorem State.controlSound_hardResetNow {s : State} (hp : s.prov.programming = none) : s.hardResetNow.controlSound := by
  refine ⟨Nat.zero_le _, Nat.zero_le _, Nat.zero_le _, Nat.zero_le _, fun h => absurd rfl h, ?_, fun h => absurd rfl h, ?_⟩
  · simp [State.hardResetNow, BankUnit.idle]
  · simp [State.hardResetNow, hp]

/-- R175: the self-test writes the lanes and the device; its notices and the ports are writes. -/
theorem State.endSelfTest_writes (s : State) (passed : BitVec 8) (unwrap : Bool) :
    ∃ st, st ≠ .starting ∧ st ≠ .inReset
      ∧ ((s.withLanes (testedLanes passed)).withDevice { s.device with state := st }).Writes (s.endSelfTest passed unwrap) := by
  unfold State.endSelfTest
  dsimp only
  refine ⟨if passed ≠ 0 ∧ unwrap then .running else .failed, ?_, ?_, ?_⟩
  · split <;> simp
  · split <;> simp
  · by_cases h : passed ≠ 0 ∧ unwrap = true
    · rw [if_pos h, if_pos rfl]
      exact (State.notify_writes _ _).trans (State.raisePorts_writes _)
    · rw [if_neg h, if_neg (by simp)]
      exact State.notify_writes _ _

/-! ### Installs (R47 to R50) -/

/-- R47: an install in progress is the work of the request under execution, and nothing else is. -/
theorem State.install_alone {s : State} {i : Install} (hc : s.controlSound) (hi : s.bank.install = some i) :
    s.control.exec = .installing ∧ s.bank.stop = .none ∧ s.prov.programming = none ∧ s.control.Attends := by
  have hsound := hc
  obtain ⟨-, -, -, -, -, h6, h7, h8⟩ := hc
  have hexec := h6 (by simp [hi])
  refine ⟨hexec, ?_, ?_, State.attends_of_exec hsound (by simp [hexec])⟩
  · by_contra h
    simp [hexec] at h7
    exact h h7
  · rcases hp : s.prov.programming with _ | p
    · rfl
    · simp [hexec, hp] at h8

theorem State.controlSound_completeInstall {s : State} {i : Install} (hc : s.controlSound) (hi : s.bank.install = some i)
    (key salt : Bytes) : (s.completeInstall i key salt).controlSound := by
  obtain ⟨u, body, hw, hu⟩ := s.completeInstall_steps i key salt
  obtain ⟨-, hstop, hprog, hattends⟩ := State.install_alone hc hi
  obtain ⟨hctrl, hbank, hprov⟩ := s.admitted_frame i key salt
  obtain ⟨hquiet, hus⟩ := hw.quiet (by rw [hbank]; exact hstop)
  obtain ⟨-, -, -, -, hup, hui⟩ := hw.frame
  rw [hu]
  refine (State.finish_writes _ _ _).controlSound (State.controlSound_answer ((hctrl ▸ hattends).quiet hquiet) ?_ hus ?_ _ _ _ _)
  · rw [hui, hbank]
  · rw [hup, hprov, hprog]

theorem State.controlSound_unwrapEnds {s : State} (hc : s.controlSound) : s.unwrapEnds.controlSound := by
  unfold State.unwrapEnds
  split
  next i hi =>
    split
    · split
      next =>
        obtain ⟨hexec, hstop, hprog, hattends⟩ := State.install_alone hc hi
        exact State.controlSound_attends hattends (fun _ => hexec) (fun h => absurd hstop h) (by simp [State.withBank, hprog])
      next =>
        obtain ⟨-, hstop, hprog, hattends⟩ := State.install_alone hc hi
        exact State.controlSound_pump (State.controlSound_answer (s := (s.setRecord i.index _).endInstall i .unwrapFailed) hattends rfl
          hstop hprog _ _ _ _)
    · exact hc
  next => exact hc

theorem State.controlSound_expansionEnds {s : State} (hc : s.controlSound) : s.expansionEnds.controlSound := by
  unfold State.expansionEnds
  split
  next i hi =>
    split
    · exact State.controlSound_completeInstall hc hi _ _
    · exact hc
  next => exact hc

theorem State.controlSound_endProgramming {s : State} (hc : s.controlSound) : s.endProgramming.controlSound := by
  unfold State.endProgramming
  split
  next f hf =>
    dsimp only
    have hprog := s.prov.finish_programming
    split
    · exact State.controlSound_hardResetNow (s := s.withProv s.prov.finish) hprog
    · have hsound := hc
      obtain ⟨-, -, -, -, -, h6, h7, h8⟩ := hc
      have hexec := h8 (by simp [hf])
      have hi : s.bank.install = none := by
        rcases hi : s.bank.install with _ | i
        · rfl
        · simp [hi, hexec] at h6
      have hs : s.bank.stop = .none := by
        by_contra h
        simp [hexec] at h7
        exact h h7
      have hattends := State.attends_of_exec hsound (by simp [hexec])
      exact State.controlSound_pump (State.controlSound_answer (s := s.withProv s.prov.finish) hattends hi hs hprog _ _ _ _)
  next => exact hc

/-! ### Every event -/

theorem State.controlSound_grant {s : State} (hc : s.controlSound) : s.grant.controlSound := by
  obtain h | ⟨l, i, d, n, e, -, -, h⟩ := s.grant_cases
  · rwa [h]
  · rw [h]
    exact State.controlSound_congr hc rfl rfl rfl rfl

theorem State.controlSound_completeLane {s : State} (hc : s.controlSound) (l : LaneId) : (s.completeLane l).controlSound := by
  obtain h | ⟨d, n, f, -, ⟨-, h⟩ | ⟨e, p, u, v, g, -, ⟨ks, rfl⟩, -, -, hv, ht⟩⟩ := s.completeLane_cases l
  · rwa [h]
  · rw [h]
    exact State.controlSound_congr hc rfl rfl rfl rfl
  · have hv := State.completed_writes hv
    have hvc := hv.controlSound (State.controlSound_congr hc rfl rfl rfl rfl)
    obtain ⟨hcontrol, hbank, hprov, -⟩ := v.letGo_frame e
    exact ht.controlSound (State.controlSound_congr hvc hcontrol (by rw [hbank]) (by rw [hbank]) (by rw [hprov]))

/-- R163, R164, R170: every event keeps the control unit within its bounds and executing one request at a time. -/
theorem State.Event.controlSound {s t : State} (hc : s.controlSound) (h : s.Event t) : t.controlSound := by
  cases h with
  | writes t hw => exact hw.writes.controlSound hc
  | reply u st fl k body ha hw =>
    obtain ⟨hattends, hi, hs, hp⟩ := hw.writes.attends hc ha
    exact State.controlSound_pump (State.controlSound_answer hattends hi hs hp _ _ _ _)
  | item u next left done fl data ha hw =>
    obtain ⟨hattends, hi, hs, hp⟩ := hw.writes.attends hc ha
    exact State.controlSound_pump (State.controlSound_attends (s := u.withControl _) (hattends.withExec _) (by simp [hi])
      (fun h => absurd hs h) (by simp [hp]))
  | takeInstall u f ha hw hcheck =>
    obtain ⟨hattends, hi, hs, hp⟩ := hw.writes.attends hc ha
    exact State.controlSound_pump (State.controlSound_attends (s := u.takeInstall f) (hattends.withExec _) (fun _ => rfl)
      (fun h => absurd hs h) (by simp [State.takeInstall, hp]))
  | awaitBoundary stop ha =>
    obtain ⟨hattends, hi, hs, hp⟩ := (State.Writes.none s).attends hc ha
    exact State.controlSound_pump (State.controlSound_attends (s := s.awaitBoundary stop) (hattends.withExec _)
      (by simp [State.awaitBoundary, State.withBank, hi]) (fun _ => rfl) (by simp [State.awaitBoundary, hp]))
  | program f ha _ =>
    obtain ⟨hattends, hi, hs, hp⟩ := (State.Writes.none s).attends hc ha
    exact State.controlSound_pump (State.controlSound_attends (s := s.startProgramming f) (hattends.withExec _)
      (by simp [State.startProgramming, hi]) (fun h => absurd hs h) (fun _ => rfl))
  | softReset ha =>
    obtain ⟨hattends, hi, hs, hp⟩ := (State.Writes.none s).attends hc ha
    refine State.controlSound_pump (State.controlSound_answer ?_ ?_ ?_ ?_ _ _ _ _)
    · rw [State.softResetAll_eq]
      exact Control.attends_softReset hattends
    · rw [State.softResetAll_eq]
      rfl
    · rw [State.softResetAll_eq]
      rfl
    · rw [State.softResetAll_eq]
      exact hp
  | zeroize ha =>
    obtain ⟨hattends, hi, hs, hp⟩ := (State.Writes.none s).attends hc ha
    obtain ⟨hquiet, hbank, hprov, -⟩ := s.zeroizeFrom_frame .request
    exact State.controlSound_pump (State.controlSound_answer (hattends.quiet hquiet) (by rw [hbank]; rfl) (by rw [hbank]; rfl)
      (by rw [hprov, hp]) _ _ _ _)
  | zeroizeInput _ => exact State.controlSound_pump (State.controlSound_answerCut .input hc)
  | startUp ctrlRate wrapOnly _ => exact State.controlSound_congr hc rfl rfl rfl rfl
  | selfTest passed unwrap _ =>
    obtain ⟨st, -, -, hw⟩ := s.endSelfTest_writes passed unwrap
    exact State.controlSound_pump (hw.controlSound (State.controlSound_congr hc rfl rfl rfl rfl))
  | programmed => exact State.controlSound_endProgramming hc
  | received bs =>
    unfold State.receiveAll
    split
    · exact State.controlSound_pump (State.controlSound_of_heard (t := s.withControl _) hc (s.control.heard_receiveAll bs) rfl rfl rfl)
    · exact hc
  | abandoned bs =>
    unfold State.receiveThenAbandon
    split
    · exact State.controlSound_pump (State.controlSound_of_heard (t := s.withControl _) hc
        ((s.control.heard_receiveAll bs).trans (Control.heard_receiver _ _)) rfl rfl rfl)
    · exact hc
  | frameSent =>
    exact State.controlSound_pump (State.controlSound_of_heard (t := s.withControl _) hc ⟨rfl, le_rfl, id, id, id, id⟩ rfl rfl rfl)
  | unwrapped => exact State.controlSound_unwrapEnds hc
  | expanded => exact State.controlSound_expansionEnds hc
  | grant => exact State.controlSound_grant hc
  | laneDone l => exact State.controlSound_completeLane hc l

theorem State.controlSound_assertReset {s : State} (hc : s.controlSound) : s.assertReset.controlSound := by
  unfold State.assertReset
  split
  next => exact State.controlSound_congr hc rfl rfl rfl rfl
  next hp => exact State.controlSound_hardResetNow (by simpa using hp)

theorem State.controlSound_powerOn (s : State) (ctrlRate wrapOnly : Bool) : (s.powerOn ctrlRate wrapOnly).controlSound :=
  State.controlSound_congr (State.controlSound_hardResetNow (s := s.withProv s.prov.finish) s.prov.finish_programming) rfl rfl rfl rfl

end Sys2Proof.Machine
end

section
/-! Certificates: the control unit (R163, R164, R170). -/

namespace Sys2Proof.Machine

/-- Settles O3: every step is an event, RESET, power-on or a tick, and each keeps the bounds. -/
theorem controlStaysSound : Obligations.ControlStaysSound := by
  intro s t hs h
  exact step_keeps (P := State.controlSound) (fun _ _ h => h) (fun _ _ h => h) (fun _ => State.controlSound_assertReset)
    (fun s c w _ => s.controlSound_powerOn c w) (fun _ _ => State.Event.controlSound) hs h

end Sys2Proof.Machine
end

section
/-! SUPPORT. Parameters, the flow table and the Store's keys through every event. -/

namespace Sys2Proof.Machine

/-! ### Parameters (Tables 2-2 and 9-1) -/

theorem State.paramsInRange_congr {s t : State} (h : s.paramsInRange) (hl : ∀ n, t.params n = s.params n)
    (hr : ∀ a, (t.record a).params = (s.record a).params) : t.paramsInRange :=
  ⟨fun n => hl n ▸ h.1 n, fun a => hr a ▸ h.2 a⟩

theorem LinkParams.default_inRange : LinkParams.default.inRange := by decide

theorem State.params_setRecord_target (r : Record) (b : Bool) (k : Option Key) : (r.setTarget b k).params = r.params := by
  cases b <;> rfl

/-- A write of one record that keeps its parameters. -/
theorem State.record_params_setRecord (s : State) {a : AssocId} {r : Record} (h : r.params = (s.record a).params) (b : AssocId) :
    ((s.setRecord a r).record b).params = (s.record b).params := by
  by_cases hb : b = a
  · subst hb
    rw [State.record_setRecord_same, h]
  · rw [State.record_setRecord_ne _ _ hb]

/-- Links whose parameters are kept: what no traffic, no Store event and no reply changes. -/
theorem State.params_of_setup {s t : State} (h : t.setup = s.setup) (n : LinkId) : t.params n = s.params n := by
  simp only [State.setup, Prod.mk.injEq] at h
  exact congrArg Prod.snd (congrFun h.2.2.2.2 n)

theorem State.paramsInRange_zeroizeAll {s : State} (h : s.paramsInRange) : s.zeroizeAll.paramsInRange := by
  refine ⟨fun n => ?_, fun a => ?_⟩
  · have hp : (s.zeroizeAll.link n).params = (s.link n).params := by rw [State.link_zeroizeAll]; rfl
    unfold State.params
    rw [hp]
    exact h.1 n
  · rw [State.record_zeroizeAll]
    exact AssocParams.default_inRange

theorem State.paramsInRange_softResetAll {s : State} (h : s.paramsInRange) : s.softResetAll.paramsInRange := by
  refine ⟨fun n => ?_, fun a => ?_⟩
  · have hp : (s.softResetAll.link n).params = (s.link n).params := by rw [State.link_softResetAll]; rfl
    unfold State.params
    rw [hp]
    exact h.1 n
  · rw [State.record_softResetAll]
    exact AssocParams.default_inRange

theorem State.paramsInRange_withControl {s : State} (h : s.paramsInRange) (c : Control) : (s.withControl c).paramsInRange := h

theorem State.paramsInRange_withDevice {s : State} (h : s.paramsInRange) (v : Device) : (s.withDevice v).paramsInRange := h

theorem State.paramsInRange_hardResetNow (s : State) : s.hardResetNow.paramsInRange := by
  refine ⟨fun n => ?_, fun a => ?_⟩
  · unfold State.params
    rw [State.link_hardResetNow]
    exact LinkParams.default_inRange
  · rw [State.record_hardResetNow]
    exact AssocParams.default_inRange

theorem State.paramsInRange_admitHeld {s : State} (h : s.paramsInRange) (n : LinkId) (a : AssocId) (p : Phase) :
    (s.admitHeld n a p).paramsInRange :=
  State.paramsInRange_congr h (fun m => State.params_setPath s n m _ .ingress) (State.record_params_setRecord _ rfl)

theorem State.paramsInRange_installed {s : State} (h : s.paramsInRange) (i : Install) (key salt : Bytes) :
    (s.installed i key salt).paramsInRange := by
  refine State.paramsInRange_congr h (fun _ => rfl) fun a => ?_
  rw [State.record_installed]
  refine State.record_params_setRecord s ?_ a
  split <;> exact State.params_setRecord_target _ _ _

theorem State.paramsInRange_admitted {s : State} (h : s.paramsInRange) (i : Install) (key salt : Bytes) :
    (s.admitted i key salt).paramsInRange := by
  have hin := State.paramsInRange_installed h i key salt
  obtain ⟨-, he⟩ | ⟨-, u, n, hw, -, -, -, he⟩ := s.admitted_cases i key salt
  · rwa [he]
  · rw [he]
    exact State.paramsInRange_admitHeld (hw.paramsInRange hin) _ _ _

theorem State.paramsInRange_completeInstall {s : State} (h : s.paramsInRange) (i : Install) (key salt : Bytes) :
    (s.completeInstall i key salt).paramsInRange := by
  obtain ⟨u, body, hw, hu⟩ := s.completeInstall_steps i key salt
  have hin := hw.paramsInRange (State.paramsInRange_admitted h i key salt)
  rw [hu]
  exact (State.finish_writes _ _ _).paramsInRange hin

theorem State.paramsInRange_unwrapEnds {s : State} (h : s.paramsInRange) : s.unwrapEnds.paramsInRange := by
  unfold State.unwrapEnds
  split
  · split
    · split
      · exact h
      · exact State.paramsInRange_congr h (fun _ => rfl) (State.record_params_setRecord s (State.params_setRecord_target _ _ _))
    · exact h
  · exact h

theorem State.paramsInRange_expansionEnds {s : State} (h : s.paramsInRange) : s.expansionEnds.paramsInRange := by
  unfold State.expansionEnds
  split
  · split
    · exact State.paramsInRange_completeInstall h _ _ _
    · exact h
  · exact h

theorem State.paramsInRange_completeLane {s : State} (h : s.paramsInRange) (l : LaneId) : (s.completeLane l).paramsInRange := by
  obtain he | ⟨d, n, f, -, ⟨-, he⟩ | ⟨e, p, u, v, g, -, ⟨ks, rfl⟩, -, -, hv, ht⟩⟩ := s.completeLane_cases l
  · rwa [he]
  · rwa [he]
  · have hv := State.completed_writes hv
    refine ht.paramsInRange ?_
    have hvin := hv.paramsInRange (State.paramsInRange_congr (s := s) h (fun m => by simp) fun _ => rfl)
    unfold State.letGo
    split
    · exact State.paramsInRange_congr hvin (fun _ => rfl) (State.record_params_setRecord v rfl)
    · exact hvin

/-- R143, R153, Table 2-2: every event keeps the parameters in their ranges. -/
theorem State.Event.paramsInRange {s t : State} (h : s.paramsInRange) (he : s.Event t) : t.paramsInRange := by
  cases he with
  | writes t hw => exact hw.writes.paramsInRange h
  | reply u st fl k body _ hw => exact hw.writes.paramsInRange h
  | item u next left done fl data _ hw => exact hw.writes.paramsInRange h
  | takeInstall u f _ hw _ =>
    exact State.paramsInRange_congr (hw.writes.paramsInRange h) (fun _ => rfl)
      (State.record_params_setRecord u (State.params_setRecord_target _ _ _))
  | awaitBoundary stop _ => exact h
  | program f _ _ => exact h
  | softReset _ =>
    obtain ⟨c, hc⟩ := s.softReset_pump .ok Flags.none []
    rw [hc]
    exact State.paramsInRange_withControl (State.paramsInRange_softResetAll h) c
  | zeroize _ =>
    obtain ⟨c, hc⟩ := s.zeroizeByRequest_pump
    rw [hc]
    exact State.paramsInRange_withControl (State.paramsInRange_withDevice (State.paramsInRange_zeroizeAll h) _) c
  | zeroizeInput _ =>
    obtain ⟨c, hc⟩ := s.zeroizeInput_pump
    rw [hc]
    exact State.paramsInRange_withControl (State.paramsInRange_withDevice (State.paramsInRange_zeroizeAll h) _) c
  | startUp ctrlRate wrapOnly _ => exact h
  | selfTest passed unwrap _ =>
    obtain ⟨st, -, -, hw⟩ := s.endSelfTest_writes passed unwrap
    exact hw.paramsInRange h
  | programmed =>
    unfold State.endProgramming
    split
    · dsimp only
      split
      · exact (s.withProv s.prov.finish).paramsInRange_hardResetNow
      · exact h
    · exact h
  | received bs =>
    unfold State.receiveAll
    split <;> exact h
  | abandoned bs =>
    unfold State.receiveThenAbandon
    split <;> exact h
  | frameSent => exact h
  | unwrapped => exact State.paramsInRange_unwrapEnds h
  | expanded => exact State.paramsInRange_expansionEnds h
  | grant =>
    obtain he | ⟨l, i, d, n, e, -, -, he⟩ := s.grant_cases
    · rwa [he]
    · rw [he]
      exact State.paramsInRange_congr (s := s) h (fun m => State.params_setPath s n m _ d) fun _ => rfl
  | laneDone l => exact State.paramsInRange_completeLane h l

theorem State.paramsInRange_assertReset {s : State} (h : s.paramsInRange) : s.assertReset.paramsInRange := by
  unfold State.assertReset
  split
  · exact h
  · exact s.paramsInRange_hardResetNow

/-! ### The flow table (R96) -/

/-- R182: clearing the hit counts changes no key and no chain's length. -/
theorem FlowTable.clearHits_sound {t : FlowTable} (h : t.sound) : t.clearHits.sound := by
  intro b
  obtain ⟨hlen, hnodup, hbucket⟩ := h b
  have hchain : t.clearHits.chain b = (t.chain b).map fun e => { e with hits := 0 } := by
    simp [FlowTable.clearHits, FlowTable.chain]
  rw [hchain]
  refine ⟨by simpa using hlen, ?_, ?_⟩
  · rw [List.map_map]
    exact hnodup
  · intro e he
    obtain ⟨x, hx, rfl⟩ := List.mem_map.1 he
    exact hbucket x hx

theorem FlowTable.blank_sound : FlowTable.blank.sound := by
  intro b
  simp [FlowTable.blank, FlowTable.chain]

theorem State.flow_completeInstall {s : State} (h : s.flow.sound) (i : Install) (key salt : Bytes) :
    (s.completeInstall i key salt).flow.sound := by
  obtain ⟨u, body, hw, hu⟩ := s.completeInstall_steps i key salt
  have hadmitted : (s.admitted i key salt).flow.sound := by
    obtain ⟨-, he⟩ | ⟨-, v, n, hv, -, -, -, he⟩ := s.admitted_cases i key salt
    · rwa [he]
    · rw [he]
      exact hv.flowSound (s := s.installed i key salt) h
  rw [hu]
  exact (State.finish_writes _ _ _).flowSound (s := u.answerOnce .ok Flags.none body) (hw.flowSound hadmitted)

theorem State.flow_completeLane {s : State} (h : s.flow.sound) (l : LaneId) : (s.completeLane l).flow.sound := by
  obtain he | ⟨d, n, f, -, ⟨-, he⟩ | ⟨e, p, u, v, g, -, ⟨ks, rfl⟩, -, -, hv, ht⟩⟩ := s.completeLane_cases l
  · rwa [he]
  · rwa [he]
  · have hv := State.completed_writes hv
    refine ht.flowSound ?_
    obtain ⟨-, -, -, -, -, -, hflow, -⟩ := v.letGo_frame e
    rw [hflow]
    exact hv.flowSound h

/-- R96: every event keeps the flow table sound. -/
theorem State.Event.flowSound {s t : State} (h : s.flow.sound) (he : s.Event t) : t.flow.sound := by
  cases he with
  | writes t hw => exact hw.writes.flowSound h
  | reply u st fl k body _ hw => exact hw.writes.flowSound h
  | item u next left done fl data _ hw => exact hw.writes.flowSound h
  | takeInstall u f _ hw _ => exact hw.writes.flowSound h
  | awaitBoundary stop _ => exact h
  | program f _ _ => exact h
  | softReset _ =>
    obtain ⟨c, hc⟩ := s.softReset_pump .ok Flags.none []
    have hf : (s.softResetAll.withControl c).flow = s.flow.clearHits := by rw [State.softResetAll_eq]; rfl
    rw [hc, hf]
    exact FlowTable.clearHits_sound h
  | zeroize _ =>
    obtain ⟨c, hc⟩ := s.zeroizeByRequest_pump
    rw [hc, State.withControl_flow, State.withDevice_flow, State.flow_zeroizeAll]
    exact h
  | zeroizeInput _ =>
    obtain ⟨c, hc⟩ := s.zeroizeInput_pump
    rw [hc, State.withControl_flow, State.withDevice_flow, State.flow_zeroizeAll]
    exact h
  | startUp ctrlRate wrapOnly _ => exact h
  | selfTest passed unwrap _ =>
    obtain ⟨st, -, -, hw⟩ := s.endSelfTest_writes passed unwrap
    exact hw.flowSound h
  | programmed =>
    unfold State.endProgramming
    split
    · dsimp only
      split
      · exact FlowTable.blank_sound
      · exact h
    · exact h
  | received bs =>
    unfold State.receiveAll
    split <;> exact h
  | abandoned bs =>
    unfold State.receiveThenAbandon
    split <;> exact h
  | frameSent => exact h
  | unwrapped =>
    unfold State.unwrapEnds
    split
    · split
      · split <;> exact h
      · exact h
    · exact h
  | expanded =>
    unfold State.expansionEnds
    split
    · split
      · exact State.flow_completeInstall h _ _ _
      · exact h
    · exact h
  | grant =>
    obtain he | ⟨l, i, d, n, e, -, -, he⟩ := s.grant_cases
    · rwa [he]
    · rwa [he]
  | laneDone l => exact State.flow_completeLane h l

theorem State.flow_assertReset {s : State} (h : s.flow.sound) : s.assertReset.flow.sound := by
  unfold State.assertReset
  split
  · exact h
  · exact FlowTable.blank_sound

/-! ### The Store's keys (R26, R43, R47) -/

theorem State.storeSound_congr {s t : State} (h : s.storeSound) (hr : ∀ a, t.record a = s.record a) (hi : t.bank.install = s.bank.install)
    (hp : t.bank.purge = s.bank.purge) (he : t.control.exec = s.control.exec) : t.storeSound := by
  refine ⟨fun a => hr a ▸ h.1 a, fun i hti => ?_⟩
  obtain ⟨h1, h2, h3⟩ := (s.installSound_iff i).1 (h.2 i (hi ▸ hti))
  exact (t.installSound_iff i).2 ⟨he.trans h1, hp ▸ h2, hr _ ▸ h3⟩

/-- With no install in progress the Store is sound when its records are. -/
theorem State.storeSound_of_keys {s : State} (hk : ∀ a, (s.record a).keysSound) (hi : s.bank.install = none) : s.storeSound :=
  ⟨hk, fun i h => by simp [hi] at h⟩

theorem Record.keysSound_blank (g : Nat) : (Record.blank g).keysSound := by
  simp [Record.keysSound, Record.phases, Record.blank]

theorem State.keysSound_setRecord {s : State} (h : ∀ a, (s.record a).keysSound) {a : AssocId} {r : Record} (hr : r.keysSound) (b : AssocId) :
    ((s.setRecord a r).record b).keysSound := by
  by_cases hb : b = a
  · subst hb
    rwa [State.record_setRecord_same]
  · rw [State.record_setRecord_ne _ _ hb]
    exact h b

/-- R46: what an INSTALL-KEY that passes its checks has found. -/
theorem State.installCheck_none {s : State} {f : InstallFields} (h : s.installCheck f = none) :
    s.bank.purge.any Purge.active = false ∧ s.bank.install = none ∧ (s.record f.index).refusesInstall f.toNxt = false
      ∧ slotHasPhase (s.record f.index).cur f.phase = false ∧ slotHasPhase (s.record f.index).old f.phase = false := by
  unfold State.installCheck at h
  dsimp only at h
  split at h
  · simp at h
  next hbusy =>
    split at h
    · simp at h
    · split at h
      · simp at h
      next hstate =>
        split at h
        · simp at h
        next hphase => simp_all

theorem Record.refusesInstall_iff (r : Record) (toNxt : Bool) : r.refusesInstall toNxt = false
    ↔ if toNxt then (r.state = .live ∨ r.state = .exhausted) ∧ r.nxt = none else r.state = .opened := by
  unfold Record.refusesInstall
  cases toNxt
  · simp
  · simp only [if_true]
    rcases r.nxt <;> simp [← or_iff_not_imp_left]

/-- R46 check 5, R26: a key of another phase in the target slot leaves the phases distinct. -/
theorem Record.keysSound_setTarget {r : Record} (h : r.keysSound) {toNxt : Bool} {k : Key} (hr : r.refusesInstall toNxt = false)
    (hc : slotHasPhase r.cur k.phase = false) (ho : slotHasPhase r.old k.phase = false) : (r.setTarget toNxt (some k)).keysSound := by
  obtain ⟨h1, h2, -⟩ := h
  have hne : ∀ x : Option Key, slotHasPhase x k.phase = false → ∀ y, x = some y → y.phase ≠ k.phase ∧ k.phase ≠ y.phase := by
    intro x hx y hy
    have hp : y.phase ≠ k.phase := by simpa [slotHasPhase, hy] using hx
    exact ⟨hp, hp.symm⟩
  rw [Record.refusesInstall_iff] at hr
  cases toNxt
  · obtain ⟨hn, ho'⟩ := h2 hr
    have hr : r.state = .opened := hr
    refine ⟨?_, fun _ => ⟨hn, ho'⟩, ?_⟩
    · simp [Record.phases_eq, Record.setTarget, hn, ho']
    · simp [Record.setTarget, hr]
  · obtain ⟨hst, hnone⟩ : (r.state = .live ∨ r.state = .exhausted) ∧ r.nxt = none := hr
    refine ⟨?_, ?_, ?_⟩
    · rw [Record.phases_eq] at h1 ⊢
      simp only [Record.setTarget, hnone, if_true] at h1 ⊢
      have hcur := hne r.cur hc
      have hold := hne r.old ho
      rcases hx : r.cur with _ | c <;> rcases hy : r.old with _ | o <;> simp_all
    · obtain hst | hst := hst <;> simp [Record.setTarget, hst]
    · obtain hst | hst := hst <;> simp [Record.setTarget, hst]

theorem Record.awaits_setTarget {r : Record} {toNxt : Bool} (hr : r.refusesInstall toNxt = false) (p : Phase) :
    (r.setTarget toNxt (some (loadingKey p))).awaits toNxt p := by
  rw [Record.refusesInstall_iff] at hr
  cases toNxt
  · exact ⟨rfl, hr⟩
  · exact ⟨rfl, hr.1⟩

theorem State.storeSound_takeInstall {s : State} {f : InstallFields} (h : s.storeSound) (hf : s.installCheck f = none) :
    (s.takeInstall f).storeSound := by
  obtain ⟨hpurge, -, hr, hc, ho⟩ := State.installCheck_none hf
  refine ⟨State.keysSound_setRecord h.1 (Record.keysSound_setTarget (k := loadingKey f.phase) (h.1 f.index) hr hc ho), fun i hi => ?_⟩
  obtain rfl := Option.some.inj (hi : some _ = some i)
  refine ((s.takeInstall f).installSound_iff _).2 ⟨rfl, hpurge, ?_⟩
  change ((s.setRecord f.index _).record f.index).awaits f.toNxt f.phase
  rw [State.record_setRecord_same]
  exact Record.awaits_setTarget hr f.phase

/-- R48: the slot of a failed install returns to ABSENT. -/
theorem Record.keysSound_setTarget_none {r : Record} (h : r.keysSound) (toNxt : Bool) : (r.setTarget toNxt none).keysSound := by
  obtain ⟨h1, h2, h3⟩ := h
  rw [Record.phases_eq] at h1
  cases toNxt
  · refine ⟨?_, h2, fun hst => ⟨rfl, (h3 hst).2⟩⟩
    rw [Record.phases_eq]
    rw [List.append_assoc] at h1
    exact (List.nodup_append.1 h1).2.1
  · refine ⟨?_, fun hst => ⟨rfl, (h2 hst).2⟩, fun hst => ⟨(h3 hst).1, rfl, (h3 hst).2.2⟩⟩
    rw [Record.phases_eq]
    simp only [Record.setTarget, if_true, Option.toList_none, List.map_nil, List.append_nil]
    exact h1.sublist ((List.sublist_append_left _ _).append_right _)

theorem State.storeSound_unwrapEnds {s : State} (h : s.storeSound) : s.unwrapEnds.storeSound := by
  unfold State.unwrapEnds
  split
  next i hi =>
    obtain ⟨h1, h2, h3⟩ := (s.installSound_iff i).1 (h.2 i hi)
    split
    · split
      · refine ⟨h.1, fun j hj => ?_⟩
        obtain rfl := Option.some.inj (hj : some _ = some j)
        exact (State.installSound_iff _ _).2 ⟨h1, h2, h3⟩
      · exact State.storeSound_of_keys (State.keysSound_setRecord h.1 (Record.keysSound_setTarget_none (h.1 _) _)) rfl
    · exact h
  next => exact h

/-- R50: the finished key has the phase that its slot was loading. -/
theorem Record.keysSound_installed {r : Record} {i : Install} (h : r.keysSound) (ha : r.awaits i.toNxt i.phase) (key salt : Bytes) :
    (if i.toNxt then r.setTarget i.toNxt (some (installedKey r i key salt))
      else { r.setTarget i.toNxt (some (installedKey r i key salt)) with state := .live }).keysSound := by
  obtain ⟨hslot, hst⟩ := ha
  rcases ht : i.toNxt with _ | _
  · simp only [ht, Bool.false_eq_true, if_false] at hslot hst
    obtain ⟨k, hk, hkp⟩ := Option.map_eq_some_iff.1 hslot
    have halike : ({ r with cur := some (installedKey r i key salt) } : Record).keysSound :=
      Record.keysSound_of_alike h rfl (by simp [hk, installedKey, (Prod.mk.inj hkp).2]) rfl rfl
    obtain ⟨hphases, -, -⟩ := halike
    exact ⟨hphases, by simp, by simp⟩
  · simp only [ht, if_true] at hslot
    obtain ⟨k, hk, hkp⟩ := Option.map_eq_some_iff.1 hslot
    exact Record.keysSound_of_alike h rfl rfl (by simp [Record.setTarget, hk, installedKey, (Prod.mk.inj hkp).2]) rfl

theorem State.keysSound_admitted {s : State} {i : Install} (h : ∀ a, (s.record a).keysSound)
    (ha : (s.record i.index).awaits i.toNxt i.phase) (key salt : Bytes) (a : AssocId) : ((s.admitted i key salt).record a).keysSound := by
  have hkeys : ∀ b, ((s.installed i key salt).record b).keysSound := fun b => by
    rw [State.record_installed]
    exact State.keysSound_setRecord h (Record.keysSound_installed (h i.index) ha key salt) b
  obtain ⟨-, he⟩ | ⟨-, u, n, -, hr, -, -, he⟩ := s.admitted_cases i key salt
  · rw [he]
    exact hkeys a
  · rw [he, State.record_admitHeld]
    have hu : ∀ b, (u.record b).keysSound := fun b => hr b ▸ hkeys b
    refine State.keysSound_setRecord hu ?_ a
    exact Record.keysSound_mapKey (hu i.index) i.phase fun _ => rfl

theorem State.storeSound_completeInstall {s : State} {i : Install} (hc : s.controlSound) (h : s.storeSound)
    (hi : s.bank.install = some i) (key salt : Bytes) : (s.completeInstall i key salt).storeSound := by
  obtain ⟨u, body, hw, hu⟩ := s.completeInstall_steps i key salt
  obtain ⟨hexec, hstop, hprog, hattends⟩ := State.install_alone hc hi
  obtain ⟨-, -, hawaits⟩ := (s.installSound_iff i).1 (h.2 i hi)
  obtain ⟨hctrl, hbank, hprov⟩ := s.admitted_frame i key salt
  have hkeys := State.keysSound_admitted h.1 hawaits key salt
  generalize s.admitted i key salt = v at *
  have hvc : v.controlSound := State.controlSound_attends (hctrl ▸ hattends) (by simp [hbank]) (by simp [hbank, hstop]) (by simp [hprov, hprog])
  have hvs : v.storeSound := State.storeSound_of_keys hkeys (by rw [hbank])
  obtain ⟨-, -, -, -, hup, hui⟩ := hw.frame
  obtain ⟨hquiet, hus⟩ := hw.quiet (by rw [hbank]; exact hstop)
  have hui : u.bank.install = none := by rw [hui, hbank]
  have hanswered : (u.answerOnce .ok Flags.none body).controlSound :=
    State.controlSound_answer ((hctrl ▸ hattends).quiet hquiet) hui hus (by rw [hup, hprov, hprog]) _ _ _ _
  rw [hu]
  exact (State.finish_writes _ _ _).storeSound hanswered (State.storeSound_of_keys (s := u.answerOnce .ok Flags.none body) (hw.storeSound hvc hvs).1 hui)

theorem State.storeSound_letGo {s : State} (h : s.storeSound) (e : Entry) : (s.letGo e).storeSound := by
  unfold State.letGo
  split
  next a p _ _ =>
    refine ⟨State.keysSound_setRecord h.1 (Record.keysSound_mapKey (h.1 a) p (f := Key.letGo) fun _ => rfl), fun i hi => ?_⟩
    obtain ⟨h1, h2, h3⟩ := (s.installSound_iff i).1 (h.2 i hi)
    refine (State.installSound_iff _ _).2 ⟨h1, h2, ?_⟩
    by_cases hb : i.index = a
    · subst hb
      rw [State.record_setRecord_same]
      exact Record.awaits_mapKey p (f := Key.letGo) (fun _ => ⟨rfl, rfl⟩) h3
    · rwa [State.record_setRecord_ne _ _ hb]
  next => exact h

theorem State.storeSound_completeLane {s : State} (hc : s.controlSound) (h : s.storeSound) (l : LaneId) :
    (s.completeLane l).storeSound := by
  obtain he | ⟨d, n, f, -, ⟨-, he⟩ | ⟨e, p, u, v, g, -, hstep, -, -, hv, ht⟩⟩ := s.completeLane_cases l
  · rwa [he]
  · rw [he]
    exact State.storeSound_congr h (fun _ => rfl) rfl rfl rfl
  · have hv := State.completed_writes hv
    obtain ⟨-, ⟨-, hb, -, -, -, -, -, hp, hctrl, -⟩, -⟩ := State.pathStep_frame hstep
    have huc : u.controlSound := State.controlSound_congr hc hctrl (by rw [hb]; rfl) (by rw [hb]; rfl) (by rw [hp]; rfl)
    have hvs := hv.storeSound huc (State.storeSound_congr h (fun a => State.record_pathStep hstep a) (by rw [hb]; rfl) (by rw [hb]; rfl)
      (by rw [hctrl]; rfl))
    obtain ⟨hcontrol, hbank, hprov, -⟩ := v.letGo_frame e
    exact ht.storeSound (State.controlSound_congr (hv.controlSound huc) hcontrol (by rw [hbank]) (by rw [hbank]) (by rw [hprov]))
      (State.storeSound_letGo hvs e)

theorem State.storeSound_hardResetNow (s : State) : s.hardResetNow.storeSound :=
  State.storeSound_of_keys (fun a => by rw [State.record_hardResetNow]; exact Record.keysSound_blank 0) rfl

theorem State.storeSound_zeroized {s : State} (hr : ∀ a, ∃ g, s.record a = Record.blank g) (hi : s.bank.install = none) (c : Control) :
    (s.withControl c).storeSound :=
  State.storeSound_of_keys (s := s.withControl c) (fun a => by obtain ⟨g, hg⟩ := hr a; rw [State.record_withControl, hg]; exact Record.keysSound_blank g) hi

/-- R26, R43, R47: every event keeps the Store sound. -/
theorem State.Event.storeSound {s t : State} (hc : s.controlSound) (h : s.storeSound) (he : s.Event t) : t.storeSound := by
  cases he with
  | writes t hw => exact hw.writes.storeSound hc h
  | reply u st fl k body ha hw =>
    obtain ⟨-, hi, -, -⟩ := hw.writes.attends hc ha
    exact State.storeSound_of_keys (hw.writes.storeSound hc h).1 hi
  | item u next left done fl data ha hw =>
    obtain ⟨-, hi, -, -⟩ := hw.writes.attends hc ha
    exact State.storeSound_of_keys (hw.writes.storeSound hc h).1 hi
  | takeInstall u f ha hw hf =>
    exact State.storeSound_congr (State.storeSound_takeInstall (hw.writes.storeSound hc h) hf) (fun _ => rfl) rfl rfl (Control.quiet_pump _).exec
  | awaitBoundary stop ha =>
    obtain ⟨-, hi, -, -⟩ := (State.Writes.none s).attends hc ha
    exact State.storeSound_of_keys h.1 hi
  | program f ha _ =>
    obtain ⟨-, hi, -, -⟩ := (State.Writes.none s).attends hc ha
    exact State.storeSound_of_keys h.1 hi
  | softReset _ =>
    obtain ⟨c, hc⟩ := s.softReset_pump .ok Flags.none []
    rw [hc]
    exact State.storeSound_zeroized (fun a => ⟨_, s.record_softResetAll a⟩) (by rw [State.softResetAll_eq]; rfl) c
  | zeroize _ =>
    obtain ⟨c, hc⟩ := s.zeroizeByRequest_pump
    rw [hc]
    exact State.storeSound_zeroized (fun a => ⟨_, (State.record_withDevice _ _ a).trans (s.record_zeroizeAll a)⟩)
      (by rw [State.withDevice_bank, State.bank_zeroizeAll]; rfl) c
  | zeroizeInput _ =>
    obtain ⟨c, hc⟩ := s.zeroizeInput_pump
    rw [hc]
    exact State.storeSound_zeroized (fun a => ⟨_, (State.record_withDevice _ _ a).trans (s.record_zeroizeAll a)⟩)
      (by rw [State.withDevice_bank, State.bank_zeroizeAll]; rfl) c
  | startUp ctrlRate wrapOnly _ => exact State.storeSound_congr h (fun _ => rfl) rfl rfl rfl
  | selfTest passed unwrap _ =>
    obtain ⟨st, -, -, hw⟩ := s.endSelfTest_writes passed unwrap
    exact State.storeSound_congr (hw.storeSound (State.controlSound_congr hc rfl rfl rfl rfl)
      (State.storeSound_congr h (fun _ => rfl) rfl rfl rfl)) (fun _ => rfl) rfl rfl (Control.quiet_pump _).exec
  | programmed =>
    unfold State.endProgramming
    split
    next f hf =>
      dsimp only
      split
      · exact (s.withProv s.prov.finish).storeSound_hardResetNow
      · obtain ⟨-, -, -, -, -, h6, -, h8⟩ := hc
        have hexec := h8 (by simp [hf])
        refine State.storeSound_of_keys h.1 ?_
        change s.bank.install = Option.none
        rcases hi : s.bank.install with _ | i
        · rfl
        · simp [hi, hexec] at h6
    next => exact h
  | received bs =>
    unfold State.receiveAll
    split
    · exact State.storeSound_congr h (fun _ => rfl) rfl rfl ((Control.quiet_pump _).exec.trans (s.control.heard_receiveAll bs).exec)
    · exact h
  | abandoned bs =>
    unfold State.receiveThenAbandon
    split
    · exact State.storeSound_congr h (fun _ => rfl) rfl rfl ((Control.quiet_pump _).exec.trans (s.control.heard_receiveAll bs).exec)
    · exact h
  | frameSent => exact State.storeSound_congr h (fun _ => rfl) rfl rfl (Control.quiet_pump _).exec
  | unwrapped => exact State.storeSound_unwrapEnds h
  | expanded =>
    unfold State.expansionEnds
    split
    next i hi =>
      split
      · exact State.storeSound_completeInstall hc h hi _ _
      · exact h
    next => exact h
  | grant =>
    obtain he | ⟨l, i, d, n, e, -, -, he⟩ := s.grant_cases
    · rwa [he]
    · rw [he]
      exact State.storeSound_congr h (fun _ => rfl) rfl rfl rfl
  | laneDone l => exact State.storeSound_completeLane hc h l

theorem State.storeSound_assertReset {s : State} (h : s.storeSound) : s.assertReset.storeSound := by
  unfold State.assertReset
  split
  · exact State.storeSound_congr h (fun _ => rfl) rfl rfl rfl
  · exact s.storeSound_hardResetNow

end Sys2Proof.Machine
end

section
/-! Certificates: the parameters, the flow table and the Store's keys. -/

namespace Sys2Proof.Machine

/-- Settles O4. -/
theorem paramsStayInRange : Obligations.ParamsStayInRange := by
  intro s t hs h
  exact step_keeps (P := State.paramsInRange) (fun _ _ h => h) (fun _ _ h => h) (fun _ => State.paramsInRange_assertReset)
    (fun s _ _ _ => (s.withProv s.prov.finish).paramsInRange_hardResetNow) (fun _ _ => State.Event.paramsInRange) hs h

/-- Settles O21. -/
theorem flowTableStaysSound : Obligations.FlowTableStaysSound := by
  intro s t hs h
  exact step_keeps (P := fun s => s.flow.sound) (fun _ _ h => h) (fun _ _ h => h) (fun _ => State.flow_assertReset)
    (fun _ _ _ _ => FlowTable.blank_sound) (fun _ _ => State.Event.flowSound) hs h

/-- Settles O5. -/
theorem storeStaysSound : Obligations.StoreStaysSound := by
  intro s t hc hs h
  exact (step_keeps (P := fun s => s.controlSound ∧ s.storeSound) (fun _ _ h => h) (fun _ _ h => h)
    (fun _ h => ⟨State.controlSound_assertReset h.1, State.storeSound_assertReset h.2⟩)
    (fun s c w _ => ⟨s.controlSound_powerOn c w, (s.withProv s.prov.finish).storeSound_hardResetNow⟩)
    (fun _ _ h he => ⟨he.controlSound h.1, he.storeSound h.1 h.2⟩) ⟨hc, hs⟩ h).2

end Sys2Proof.Machine
end

section
/-! SUPPORT. The queue of commands, the provisioning area and the device state through every event. -/

namespace Sys2Proof.Machine

/-- What every event leaves of the queue of commands, of a locked provisioning area and of a FAILED device. -/
structure State.Steady (s t : State) : Prop where
  pending : t.pending = s.pending
  prov : s.prov.locked = true → s.prov.programming = none → t.prov = s.prov
  failed : s.device.state = .failed → s.device.resetWaits = false ∨ s.prov.programming = none → t.device.state = .failed

theorem State.Steady.of_eq {s t : State} (hpending : t.pending = s.pending) (hdevice : t.device.state = s.device.state)
    (hprov : t.prov = s.prov) : s.Steady t :=
  ⟨hpending, fun _ _ => hprov, fun h _ => hdevice.trans h⟩

theorem State.Writes.steady {s t : State} (h : s.Writes t) : s.Steady t := by
  obtain ⟨hpending, hdevice, -, -, hprov, -⟩ := h.frame
  exact .of_eq hpending (by rw [hdevice]) hprov

/-- What follows writes and touches neither the queue of commands nor the device nor the provisioning area. -/
theorem State.Writes.steady_of_eq {s u t : State} (h : s.Writes u) (hpending : t.pending = u.pending) (hdevice : t.device = u.device)
    (hprov : t.prov = u.prov) : s.Steady t := by
  obtain ⟨hp, hd, -, -, hv, -⟩ := h.frame
  exact .of_eq (hpending.trans hp) (by rw [hdevice, hd]) (hprov.trans hv)

/-- What no traffic and no Store event changes is steady. -/
theorem State.Steady.of_setup {s t : State} (h : t.setup = s.setup) : s.Steady t := by
  simp only [State.setup, Prod.mk.injEq] at h
  exact .of_eq h.1 (by rw [h.2.1]) h.2.2.2.1

theorem State.Event.steady {s t : State} (h : s.Event t) : s.Steady t := by
  cases h with
  | writes t hw => exact hw.writes.steady
  | reply u st fl k body _ hw => exact hw.writes.steady_of_eq rfl rfl rfl
  | item u next left done fl data _ hw => exact hw.writes.steady_of_eq rfl rfl rfl
  | takeInstall u f _ hw _ => exact hw.writes.steady_of_eq rfl rfl rfl
  | awaitBoundary stop _ => exact .of_eq rfl rfl rfl
  | program f _ hunlocked => exact ⟨rfl, fun h => by simp [h] at hunlocked, fun h _ => h⟩
  | softReset _ =>
    obtain ⟨c, hc⟩ := s.softReset_pump .ok Flags.none []
    rw [hc, State.softResetAll_eq]
    exact .of_eq rfl rfl rfl
  | zeroize _ =>
    obtain ⟨c, hc⟩ := s.zeroizeByRequest_pump
    rw [hc]
    exact .of_eq (by rw [State.withControl_pending, State.withDevice_pending, State.pending_zeroizeAll])
      (by rw [State.withControl_device, State.withDevice_device])
      (by rw [State.withControl_prov, State.withDevice_prov, State.prov_zeroizeAll])
  | zeroizeInput _ =>
    obtain ⟨c, hc⟩ := s.zeroizeInput_pump
    rw [hc]
    exact .of_eq (by rw [State.withControl_pending, State.withDevice_pending, State.pending_zeroizeAll])
      (by rw [State.withControl_device, State.withDevice_device])
      (by rw [State.withControl_prov, State.withDevice_prov, State.prov_zeroizeAll])
  | startUp ctrlRate wrapOnly hstate => exact ⟨rfl, fun _ _ => rfl, fun h => by simp [h] at hstate⟩
  | selfTest passed unwrap hstate =>
    obtain ⟨st, -, -, hw⟩ := s.endSelfTest_writes passed unwrap
    obtain ⟨hp, hd, -, -, hv, -⟩ := hw.frame
    exact ⟨hp, fun _ _ => hv, fun h => by simp [h] at hstate⟩
  | programmed =>
    unfold State.endProgramming
    split
    next f hf =>
      dsimp only
      split
      next hr => exact ⟨rfl, fun _ h => by simp [hf] at h, fun _ h => by simp [hr, hf] at h⟩
      next => exact ⟨rfl, fun _ h => by simp [hf] at h, fun h _ => h⟩
    next => exact .of_eq rfl rfl rfl
  | received bs => exact .of_setup (s.setup_receiveAll bs)
  | abandoned bs => exact .of_setup (s.setup_receiveThenAbandon bs)
  | frameSent => exact .of_eq rfl rfl rfl
  | unwrapped => exact .of_setup s.setup_unwrapEnds
  | expanded => exact .of_setup s.setup_expansionEnds
  | grant => exact .of_setup s.setup_grant
  | laneDone l => exact .of_setup (s.setup_completeLane l)

theorem exec_pending {i : Instr} {s t : State} (h : exec i s = .next t) : t.pending = s.pending := by
  obtain he | ⟨-, rfl⟩ | ⟨c, w, -, rfl⟩ := exec_cases h
  · exact he.steady.pending
  · unfold State.assertReset
    split <;> rfl
  · rfl

/-- R176: once the area is locked and nothing is being programmed, no command changes it. -/
theorem exec_prov_of_locked {i : Instr} {s t : State} (hl : s.prov.locked = true) (hp : s.prov.programming = none)
    (h : exec i s = .next t) : t.prov = s.prov := by
  obtain he | ⟨-, rfl⟩ | ⟨c, w, -, rfl⟩ := exec_cases h
  · exact he.steady.prov hl hp
  · unfold State.assertReset
    split <;> rfl
  · have hf : s.prov.finish = s.prov := by simp [Provisioning.finish, hp]
    exact hf

end Sys2Proof.Machine
end

section
/-! Certificates: a step. -/

namespace Sys2Proof.Machine

/-- Settles O1. -/
theorem stepRunsFront : Obligations.StepRunsFront := by
  refine ⟨⟨fun c rest s h => ?_, fun s h => ?_⟩, fun i s t h => exec_pending h⟩
  · simp only [step, h]
  · simp only [step, h]

end Sys2Proof.Machine
end

section
/-! SUPPORT. In-flight counts: what a record counts for a phase, what the queues count, and that every write changes both alike. -/

namespace Sys2Proof.Machine

/-! ### What a record counts -/

/-- What a slot counts for the keys of phase `p`. -/
def slotFlight (p : Phase) (k : Option Key) : Nat := if slotHasPhase k p then slotInFlight k else 0

/-- What a record counts for its key of phase `p`. -/
def Record.flight (r : Record) (p : Phase) : Nat := slotInFlight (r.keyOf p)

theorem slotFlight_none (p : Phase) : slotFlight p none = 0 := rfl

theorem slotFlight_some (p : Phase) (k : Key) : slotFlight p (some k) = if k.phase = p then k.inFlight else 0 := by
  simp [slotFlight, slotHasPhase, slotInFlight]

theorem slotFlight_of_zero {p : Phase} {k : Option Key} (h : slotInFlight k = 0) : slotFlight p k = 0 := by
  unfold slotFlight
  split
  · exact h
  · rfl

/-- Two slots whose keys have the same phase and count. -/
theorem slotFlight_congr {k k' : Option Key} (h : k'.map (fun k => (k.phase, k.inFlight)) = k.map fun k => (k.phase, k.inFlight))
    (p : Phase) : slotFlight p k' = slotFlight p k := by
  rcases k with _ | k <;> rcases k' with _ | k' <;> simp_all [slotFlight_some, slotFlight_none]

/-- The keys of a record, slot by slot. -/
theorem Record.keys_eq (r : Record) : [r.cur, r.nxt, r.old].filterMap id = r.cur.toList ++ r.nxt.toList ++ r.old.toList := by
  rcases r.cur <;> rcases r.nxt <;> rcases r.old <;> rfl

/-- Among keys of distinct phases at most one counts for a phase. -/
theorem slotInFlight_find {l : List Key} (h : (l.map Key.phase).Nodup) (p : Phase) :
    slotInFlight (l.find? fun k => k.phase == p) = (l.map fun k => slotFlight p (some k)).sum := by
  induction l with
  | nil => rfl
  | cons k l ih =>
    obtain ⟨hk, hl⟩ := List.nodup_cons.1 h
    rw [List.map_cons, List.sum_cons, slotFlight_some, List.find?_cons]
    by_cases hp : k.phase = p
    · have hzero : ((l.map fun k => slotFlight p (some k)).sum) = 0 := by
        refine List.sum_eq_zero fun x hx => ?_
        obtain ⟨y, hy, rfl⟩ := List.mem_map.1 hx
        rw [slotFlight_some, if_neg]
        rintro rfl
        exact hk (hp ▸ List.mem_map_of_mem hy)
      simp [hp, hzero, slotInFlight]
    · have hf : (k.phase == p) = false := by simpa using hp
      rw [hf, if_neg hp, Nat.zero_add]
      exact ih hl

/-- R26: with distinct phases at most one slot counts for a phase. -/
theorem Record.flight_eq {r : Record} (h : r.phases.Nodup) (p : Phase) :
    r.flight p = slotFlight p r.cur + slotFlight p r.nxt + slotFlight p r.old := by
  have hsum : ∀ x : Option Key, (x.toList.map fun k => slotFlight p (some k)).sum = slotFlight p x := by
    intro x
    rcases x with _ | k
    · rfl
    · simp
  unfold Record.phases at h
  unfold Record.flight Record.keyOf
  rw [Record.keys_eq] at h ⊢
  rw [slotInFlight_find h, List.map_append, List.map_append, List.sum_append, List.sum_append, hsum, hsum, hsum]

/-- R26: a key in a slot is the key of its phase. -/
theorem Record.keyOf_of_slot {r : Record} (h : r.phases.Nodup) {k : Key} (hk : r.cur = some k ∨ r.nxt = some k ∨ r.old = some k) :
    r.keyOf k.phase = some k := by
  have hmem : k ∈ [r.cur, r.nxt, r.old].filterMap id := by
    rw [Record.keys_eq]
    obtain hk | hk | hk := hk <;> simp [hk]
  unfold Record.phases at h
  unfold Record.keyOf
  rw [List.find?_eq_some_iff_append]
  obtain ⟨l1, l2, hl⟩ := List.append_of_mem hmem
  refine ⟨by simp, l1, l2, hl, fun x hx => ?_⟩
  rw [hl, List.map_append, List.map_cons] at h
  have hne := (List.nodup_append.1 h).2.2 x.phase (List.mem_map_of_mem hx) k.phase (by simp)
  simpa using hne

theorem Record.keyOf_mapKey (r : Record) (p : Phase) {f : Key → Key} (hf : ∀ k, (f k).phase = k.phase) (p' : Phase) :
    (r.mapKey p f).keyOf p' = if p' = p then (r.keyOf p').map f else r.keyOf p' := by
  have hg : ∀ k : Key, ((if k.phase = p then f k else k).phase == p') = (k.phase == p') := by
    intro k
    split <;> simp [hf]
  have hlist : ∀ l : List Key, (l.map fun k => if k.phase = p then f k else k).find? (fun k => k.phase == p')
      = if p' = p then (l.find? fun k => k.phase == p').map f else l.find? fun k => k.phase == p' := by
    intro l
    induction l with
    | nil => simp
    | cons k l ih =>
      simp only [List.map_cons, List.find?_cons, hg]
      rcases hp : k.phase == p' with _ | _
      · exact ih
      · obtain rfl : k.phase = p' := by simpa using hp
        by_cases hk : k.phase = p <;> simp [hk]
  have hslots : [(r.mapKey p f).cur, (r.mapKey p f).nxt, (r.mapKey p f).old].filterMap id
      = ([r.cur, r.nxt, r.old].filterMap id).map fun k => if k.phase = p then f k else k := by
    unfold Record.mapKey
    rcases r.cur <;> rcases r.nxt <;> rcases r.old <;> rfl
  unfold Record.keyOf
  rw [hslots, hlist]

theorem Record.flight_mapKey (r : Record) (p : Phase) {f : Key → Key} (hf : ∀ k, (f k).phase = k.phase ∧ (f k).inFlight = k.inFlight)
    (p' : Phase) : (r.mapKey p f).flight p' = r.flight p' := by
  unfold Record.flight
  rw [Record.keyOf_mapKey r p fun k => (hf k).1]
  split
  · rcases r.keyOf p' with _ | k
    · rfl
    · exact (hf k).2
  · rfl

/-- Records whose slots have the same phases and counts. -/
theorem Record.flight_congr {r r' : Record} (h : r.phases.Nodup) (h' : r'.phases.Nodup)
    (hc : r'.cur.map (fun k => (k.phase, k.inFlight)) = r.cur.map fun k => (k.phase, k.inFlight))
    (hn : r'.nxt.map (fun k => (k.phase, k.inFlight)) = r.nxt.map fun k => (k.phase, k.inFlight))
    (ho : r'.old.map (fun k => (k.phase, k.inFlight)) = r.old.map fun k => (k.phase, k.inFlight)) (p : Phase) :
    r'.flight p = r.flight p := by
  rw [Record.flight_eq h, Record.flight_eq h', slotFlight_congr hc, slotFlight_congr hn, slotFlight_congr ho]

theorem Record.flight_of_empty {r : Record} (hc : r.cur = none) (hn : r.nxt = none) (ho : r.old = none) (p : Phase) : r.flight p = 0 := by
  simp [Record.flight, Record.keyOf, hc, hn, ho, slotInFlight]

/-- R55, R87: a drained record counts nothing. -/
theorem Record.flight_of_drained {r : Record} (h : r.phases.Nodup) (hd : r.drained = true) (p : Phase) : r.flight p = 0 := by
  simp only [Record.drained, beq_iff_eq] at hd
  rw [Record.flight_eq h, slotFlight_of_zero (k := r.cur) (by omega), slotFlight_of_zero (k := r.nxt) (by omega),
    slotFlight_of_zero (k := r.old) (by omega)]

/-! ### Moves of a record -/

theorem Record.Move.flight {r r' : Record} (h : r.Move r') (hr : r.keysSound) (hr' : r'.keysSound) (p : Phase) :
    r'.flight p = r.flight p := by
  cases h with
  | book r' _ hc hn ho _ => simp [Record.flight, Record.keyOf, hc, hn, ho]
  | mapKey ph f hf => exact Record.flight_mapKey r ph (fun k => ⟨(hf k).2.1, (hf k).2.2⟩) p
  | cur f hf =>
    refine Record.flight_congr hr.1 hr'.1 ?_ rfl rfl p
    rcases r.cur with _ | k
    · rfl
    · simp [hf]
  | exhaust _ => rfl
  | destroyOld k ho hz =>
    rw [Record.flight_eq hr.1, Record.flight_eq hr'.1, slotFlight_of_zero (k := r.old) (by simp [ho, slotInFlight, hz])]
    rfl
  | retireOld k ho _ => exact Record.flight_congr hr.1 hr'.1 rfl rfl (by simp [ho]) p
  | opened d n channel ps hst _ =>
    obtain ⟨-, -, hempty⟩ := hr
    obtain ⟨hc, hn, ho⟩ := hempty (.inl hst)
    rw [Record.flight_of_empty hc hn ho, Record.flight_of_empty rfl rfl rfl]

theorem Record.loadingSound_of_alike {r r' : Record} (h : r.loadingSound) (hst : r'.state = .opened → r.state = .opened)
    (hc : r'.cur.map (fun k => (k.state, k.inFlight)) = r.cur.map fun k => (k.state, k.inFlight))
    (hn : r'.nxt.map (fun k => (k.state, k.inFlight)) = r.nxt.map fun k => (k.state, k.inFlight))
    (ho : r'.old.map (fun k => (k.state, k.inFlight)) = r.old.map fun k => (k.state, k.inFlight)) : r'.loadingSound := by
  obtain ⟨h1, h2⟩ := h
  have hback : ∀ {x x' : Option Key}, x'.map (fun k => (k.state, k.inFlight)) = x.map (fun k => (k.state, k.inFlight)) →
      ∀ k', x' = some k' → ∃ k, x = some k ∧ k.state = k'.state ∧ k.inFlight = k'.inFlight := by
    intro x x' hx k' hk'
    rcases x with _ | k
    · simp [hk'] at hx
    · simp only [hk', Option.map_some, Option.some.injEq, Prod.mk.injEq] at hx
      exact ⟨k, rfl, hx.1.symm, hx.2.symm⟩
  refine ⟨fun k' hk' hload => ?_, fun ho' k' hk' => ?_⟩
  · obtain hk' | hk' | hk' := hk'
    · obtain ⟨k, hk, hs, hf⟩ := hback hc k' hk'
      rw [← hf]
      exact h1 k (.inl hk) (hs.trans hload)
    · obtain ⟨k, hk, hs, hf⟩ := hback hn k' hk'
      rw [← hf]
      exact h1 k (.inr (.inl hk)) (hs.trans hload)
    · obtain ⟨k, hk, hs, hf⟩ := hback ho k' hk'
      rw [← hf]
      exact h1 k (.inr (.inr hk)) (hs.trans hload)
  · obtain ⟨k, hk, hs, -⟩ := hback hc k' hk'
    exact hs ▸ h2 (hst ho') k hk

theorem Key.map_fields_if {α : Type} (g : Key → α) {p : Phase} {f : Key → Key} (hf : ∀ k, g (f k) = g k) (x : Option Key) :
    (x.map fun k => if k.phase = p then f k else k).map g = x.map g := by
  rcases x with _ | k
  · rfl
  · simp only [Option.map_some]
    split <;> simp [hf]

theorem Record.loadingSound_mapKey {r : Record} (h : r.loadingSound) (p : Phase) {f : Key → Key}
    (hf : ∀ k, (f k).state = k.state ∧ (f k).inFlight = k.inFlight) : (r.mapKey p f).loadingSound :=
  have hg : ∀ k : Key, ((f k).state, (f k).inFlight) = (k.state, k.inFlight) := fun k => by rw [(hf k).1, (hf k).2]
  Record.loadingSound_of_alike h id (Key.map_fields_if (fun k => (k.state, k.inFlight)) hg _)
    (Key.map_fields_if (fun k => (k.state, k.inFlight)) hg _) (Key.map_fields_if (fun k => (k.state, k.inFlight)) hg _)

/-- R28, R47: a count of a key that is not LOADING may change. -/
theorem Record.loadingSound_mapCount {r : Record} (h : r.loadingSound) (hr : r.phases.Nodup) {p : Phase} {k : Key}
    (hk : r.keyOf p = some k) (hload : k.state ≠ .loading) {f : Key → Key} (hf : ∀ k, (f k).state = k.state) :
    (r.mapKey p f).loadingSound := by
  obtain ⟨h1, h2⟩ := h
  have hback : ∀ {x : Option Key}, (x = r.cur ∨ x = r.nxt ∨ x = r.old) →
      ∀ k', (x.map fun k => if k.phase = p then f k else k) = some k' → k'.state = .loading → k'.inFlight = 0 := by
    intro x hx k' hk' hl
    obtain ⟨y, rfl, hy⟩ := Option.map_eq_some_iff.1 hk'
    have hslot : r.cur = some y ∨ r.nxt = some y ∨ r.old = some y := by obtain hx | hx | hx := hx <;> simp [← hx]
    by_cases hp : y.phase = p
    · have hky := Record.keyOf_of_slot hr hslot
      rw [hp, hk] at hky
      rw [if_pos hp] at hy
      rw [← hy, hf] at hl
      exact absurd (Option.some.inj hky ▸ hl) hload
    · rw [if_neg hp] at hy
      subst hy
      exact h1 _ hslot hl
  refine ⟨fun k' hk' hl => ?_, fun ho k' hk' => ?_⟩
  · obtain hk' | hk' | hk' := hk'
    · exact hback (.inl rfl) k' hk' hl
    · exact hback (.inr (.inl rfl)) k' hk' hl
    · exact hback (.inr (.inr rfl)) k' hk' hl
  · obtain ⟨y, hy, rfl⟩ := Option.map_eq_some_iff.1 hk'
    have := h2 ho y hy
    split
    · rwa [hf]
    · exact this

theorem Record.loadingSound_blank (g : Nat) (st : RecState) : ({ Record.blank g with state := st } : Record).loadingSound := by
  simp [Record.loadingSound, Record.blank]

/-- R28, R47: what a write does to a record leaves a LOADING key with nothing in flight. -/
theorem Record.Moved.loading {s : State} {r r' : Record} (h : Record.Moved s r r') (hr : r.keysSound) (hl : r.loadingSound) :
    r'.loadingSound := by
  cases h with
  | same => exact hl
  | move r' hm =>
    cases hm with
    | book r' hst hc hn ho _ => exact Record.loadingSound_of_alike hl (fun h => hst ▸ h) (by rw [hc]) (by rw [hn]) (by rw [ho])
    | mapKey p f hf => exact Record.loadingSound_mapKey hl p fun k => ⟨(hf k).1, (hf k).2.2⟩
    | cur f hf =>
      refine Record.loadingSound_of_alike hl id ?_ rfl rfl
      rcases r.cur with _ | k
      · rfl
      · simp [hf]
    | exhaust hlive => exact ⟨hl.1, by simp⟩
    | destroyOld k ho _ =>
      obtain ⟨h1, h2⟩ := hl
      exact ⟨fun k' hk' => by
        obtain hk' | hk' | hk' := hk'
        · exact h1 k' (.inl hk')
        · exact h1 k' (.inr (.inl hk'))
        · simp at hk', h2⟩
    | retireOld k ho _ =>
      obtain ⟨h1, h2⟩ := hl
      refine ⟨fun k' hk' hload => ?_, h2⟩
      obtain hk' | hk' | hk' := hk'
      · exact h1 k' (.inl hk') hload
      · exact h1 k' (.inr (.inl hk')) hload
      · obtain rfl := Option.some.inj hk'
        simp at hload
    | opened d n channel ps _ _ => simp [Record.loadingSound, openedRecord, Record.blank]
  | shut st _ hst =>
    refine Record.loadingSound_of_alike hl ?_ rfl rfl ?_
    · obtain rfl | rfl := hst <;> simp
    · rcases r.old with _ | k <;> rfl
  | charge k b hk hload =>
    obtain ⟨h1, h2⟩ := hl
    refine ⟨fun k' hk' hl' => ?_, fun ho => absurd (h2 ho k hk) hload⟩
    obtain hk' | hk' | hk' := hk'
    · obtain rfl := Option.some.inj hk'
      simp only [Key.charge] at hl'
      split at hl'
      · simp at hl'
      · exact absurd hl' hload
    · exact h1 k' (.inr (.inl hk')) hl'
    · exact h1 k' (.inr (.inr hk')) hl'
  | hold p k hk hload => exact Record.loadingSound_mapCount hl hr.1 hk hload (f := Key.hold) fun _ => rfl
  | rollEgress c k k1 _ _ _ _ _ hload =>
    refine ⟨fun k' hk' hl' => ?_, by simp [Record.rollEgress]⟩
    simp only [Record.rollEgress] at hk'
    obtain hk' | hk' | hk' := hk'
    · obtain rfl := Option.some.inj hk'
      exact absurd hl' hload
    · simp at hk'
    · split at hk'
      · simp at hk'
      · obtain rfl := Option.some.inj hk'
        simp at hl'
  | rollIngress c k deadline _ hk _ _ =>
    obtain ⟨-, hopened, -⟩ := hr
    refine ⟨fun k' hk' hl' => ?_, fun ho => ?_⟩
    · simp only [Record.rollIngress] at hk'
      obtain hk' | hk' | hk' := hk'
      · obtain rfl := Option.some.inj hk'
        simp at hl'
      · simp at hk'
      · obtain rfl := Option.some.inj hk'
        simp at hl'
    · have := (hopened ho).1
      simp [hk] at this
  | empty after _ _ => exact Record.loadingSound_blank _ _

/-! ### What the queues count -/

/-- How many entries of a queue are counted for the key of record `a` with phase `p`. -/
def refs (a : AssocId) (p : Phase) (q : List Entry) : Nat := q.countP (Entry.countsFor a p)

/-- How many entries of a queue are in lane `l`. -/
def inLaneOf (l : LaneId) (q : List Entry) : Nat := q.countP fun e => e.state == .inLane l

theorem State.countFor_eq (s : State) (a : AssocId) (p : Phase) :
    s.countFor a p = ∑ n : Fin 4, (refs a p (s.path .egress n).queue + refs a p (s.path .ingress n).queue) :=
  (Fin.sum_univ_def _).symm

theorem State.countFor_congr {s t : State} {a : AssocId} {p : Phase} (h : ∀ d n, refs a p (t.path d n).queue = refs a p (s.path d n).queue) :
    t.countFor a p = s.countFor a p := by
  simp only [State.countFor_eq, h]

theorem State.countFor_zero {s : State} {a : AssocId} {p : Phase} (h : ∀ d n, refs a p (s.path d n).queue = 0) : s.countFor a p = 0 := by
  simp [State.countFor_eq, h]

/-- A change of one queue. -/
theorem State.countFor_of_path {s t : State} {d : Dir} {n : LinkId}
    (h : ∀ d' m, (d', m) ≠ (d, n) → (t.path d' m).queue = (s.path d' m).queue) (a : AssocId) (p : Phase) :
    t.countFor a p + refs a p (s.path d n).queue = s.countFor a p + refs a p (t.path d n).queue := by
  rw [State.countFor_eq, State.countFor_eq,
    ← Finset.add_sum_erase _ (fun n => refs a p (t.path .egress n).queue + refs a p (t.path .ingress n).queue) (Finset.mem_univ n),
    ← Finset.add_sum_erase _ (fun n => refs a p (s.path .egress n).queue + refs a p (s.path .ingress n).queue) (Finset.mem_univ n)]
  have hrest : ∑ m ∈ Finset.univ.erase n, (refs a p (t.path .egress m).queue + refs a p (t.path .ingress m).queue)
      = ∑ m ∈ Finset.univ.erase n, (refs a p (s.path .egress m).queue + refs a p (s.path .ingress m).queue) := by
    refine Finset.sum_congr rfl fun m hm => ?_
    have hne : m ≠ n := Finset.ne_of_mem_erase hm
    rw [h .egress m (by simp [hne]), h .ingress m (by simp [hne])]
  rw [hrest]
  cases d
  · rw [h .ingress n (by simp)]
    omega
  · rw [h .egress n (by simp)]
    omega

end Sys2Proof.Machine
end

section
/-! SUPPORT. In-flight counts through one write (R30, R31, R119). -/

namespace Sys2Proof.Machine

/-- What the queues and the records count changes alike, and no entry enters or leaves a lane. -/
theorem State.countsSound_of {s t : State} (h : s.countsSound)
    (hcount : ∀ a p, t.countFor a p + (s.record a).flight p = s.countFor a p + (t.record a).flight p)
    (hlane : ∀ l d n, inLaneOf l (t.path d n).queue = inLaneOf l (s.path d n).queue) (hlanes : t.lanes = s.lanes)
    (hdevice : t.device.state = s.device.state) (hload : ∀ a, (t.record a).loadingSound) : t.countsSound := by
  obtain ⟨h1, ⟨h2, h3⟩, -⟩ := h
  have hl : ∀ l, t.lane l = s.lane l := fun l => by simp [State.lane, hlanes]
  refine ⟨fun a p => ?_, ⟨fun l d n => ?_, fun hst l => ?_⟩, hload⟩
  · have hs : s.countFor a p = (s.record a).flight p := h1 a p
    have := hcount a p
    change t.countFor a p = (t.record a).flight p
    omega
  · rw [hl]
    exact (hlane l d n).trans (h2 l d n)
  · rw [hl]
    exact h3 (hdevice ▸ hst) l

/-- With the queues as they are. -/
theorem State.countsSound_of_records {s t : State} (h : s.countsSound) (hpath : ∀ d n, (t.path d n).queue = (s.path d n).queue)
    (hlanes : t.lanes = s.lanes) (hdevice : t.device.state = s.device.state)
    (hrec : ∀ a p, (t.record a).flight p = (s.record a).flight p) (hload : ∀ a, (t.record a).loadingSound) : t.countsSound := by
  refine State.countsSound_of h (fun a p => ?_) (fun l d n => by rw [hpath]) hlanes hdevice hload
  rw [hrec, State.countFor_congr (s := s) (t := t) fun d n => by rw [hpath]]

theorem State.countsSound_congr {s t : State} (h : s.countsSound) (hpath : ∀ d n, (t.path d n).queue = (s.path d n).queue)
    (hlanes : t.lanes = s.lanes) (hdevice : t.device.state = s.device.state) (hrec : ∀ a, t.record a = s.record a) : t.countsSound :=
  State.countsSound_of_records h hpath hlanes hdevice (fun a p => by rw [hrec]) fun a => hrec a ▸ h.2.2 a

/-- With the records as they are and queues that refer to the same keys and lanes. -/
theorem State.countsSound_of_sameRefs {s t : State} (h : s.countsSound) (hq : ∀ d n, sameRefs (s.path d n).queue (t.path d n).queue)
    (hlanes : t.lanes = s.lanes) (hdevice : t.device.state = s.device.state) (hrec : ∀ a, t.record a = s.record a) : t.countsSound := by
  refine State.countsSound_of h (fun a p => ?_) (fun l d n => (hq d n).2 l) hlanes hdevice fun a => hrec a ▸ h.2.2 a
  rw [hrec, State.countFor_congr (s := s) (t := t) fun d n => (hq d n).1 a p]

/-! ### Entries that begin to count -/

/-- R30: a WAITING entry is counted for the key it refers to and for no other. -/
theorem Entry.countsFor_waiting {e : Entry} {a : AssocId} {p : Phase} (hs : e.state = .waiting) (ha : e.assoc = some a)
    (hk : e.key = some p) (b : AssocId) (p' : Phase) : e.countsFor b p' = decide (b = a ∧ p' = p) := by
  refine Bool.eq_iff_iff.2 ?_
  simp only [Entry.countsFor, hs, ha, hk, Bool.and_true, Bool.and_eq_true, beq_iff_eq, Option.some.injEq, decide_eq_true_eq]
  exact and_congr eq_comm eq_comm

theorem refs_cons (a : AssocId) (p : Phase) (e : Entry) (q : List Entry) :
    refs a p (e :: q) = (if e.countsFor a p then 1 else 0) + refs a p q := by
  unfold refs
  rw [List.countP_cons, Nat.add_comm]

theorem refs_append (a : AssocId) (p : Phase) (q q' : List Entry) : refs a p (q ++ q') = refs a p q + refs a p q' := List.countP_append

theorem inLaneOf_cons (l : LaneId) (e : Entry) (q : List Entry) :
    inLaneOf l (e :: q) = (if e.state = .inLane l then 1 else 0) + inLaneOf l q := by
  unfold inLaneOf
  rw [List.countP_cons, Nat.add_comm]
  simp

theorem inLaneOf_append_waiting (l : LaneId) (q : List Entry) {e : Entry} (h : e.state = .waiting) : inLaneOf l (q ++ [e]) = inLaneOf l q := by
  simp [inLaneOf, List.countP_append, h]

theorem refs_append_waiting {e : Entry} {a : AssocId} {p : Phase} (hs : e.state = .waiting) (ha : e.assoc = some a)
    (hk : e.key = some p) (b : AssocId) (p' : Phase) (q : List Entry) :
    refs b p' (q ++ [e]) = refs b p' q + if b = a ∧ p' = p then 1 else 0 := by
  rw [refs_append, refs_cons, Entry.countsFor_waiting hs ha hk]
  simp [refs]

theorem Entry.isHeldOf_assoc {e : Entry} {a : AssocId} (h : e.isHeldOf a = true) : e.assoc = some a := by
  simp only [Entry.isHeldOf, Bool.and_eq_true, beq_iff_eq] at h
  exact h.2

/-- R80: the release of a hold counts its entries for the new key and in its in-flight count. -/
theorem releaseHeld_counts (a : AssocId) (r : Record) (q : List Entry) (k : Key) :
    (releaseHeld a r q k).2.1.inFlight = k.inFlight + (releaseHeld a r q k).2.2.2
    ∧ (∀ b p, refs b p (releaseHeld a r q k).1 = refs b p q + if b = a ∧ p = k.phase then (releaseHeld a r q k).2.2.2 else 0)
    ∧ ∀ l, inLaneOf l (releaseHeld a r q k).1 = inLaneOf l q := by
  induction q generalizing k with
  | nil => exact ⟨rfl, fun b p => by simp [releaseHeld, refs], fun l => rfl⟩
  | cons e rest ih =>
    rcases hheld : e.isHeldOf a with _ | _
    · rw [releaseHeld_cons_other r rest k hheld]
      obtain ⟨h1, h2, h3⟩ := ih k
      refine ⟨h1, fun b p => ?_, fun l => ?_⟩
      · rw [refs_cons, refs_cons, h2, Nat.add_assoc]
      · rw [inLaneOf_cons, inLaneOf_cons, h3]
    · obtain ⟨k2, hphase, hflight, hq, hk, hc⟩ := releaseHeld_cons_held r rest k hheld
      obtain ⟨h1, h2, h3⟩ := ih k2
      rw [hq, hk, hc]
      refine ⟨by omega, fun b p => ?_, fun l => ?_⟩
      · have hassoc := Entry.isHeldOf_assoc hheld
        have hnew := Entry.countsFor_waiting (e := { e with state := .waiting, pn := some k.n, key := some k.phase }) (a := a)
          (p := k.phase) rfl hassoc rfl b p
        rw [refs_cons, refs_cons, h2, Entry.countsFor_of_atRest (Entry.atRest_of_isHeldOf hheld), hnew, hphase]
        by_cases hbp : b = a ∧ p = k.phase
        · simp only [hbp, and_self, decide_true, if_true, Bool.false_eq_true, if_false]
          omega
        · simp [hbp]
      · have hrest := Entry.inLane_of_atRest (Entry.atRest_of_isHeldOf hheld) l
        rw [inLaneOf_cons, inLaneOf_cons, h3]
        simp_all

/-! ### Entries that cease to name a record (R24) -/

theorem refs_unname (a : AssocId) (q : List Entry) (b : AssocId) (p : Phase) :
    refs b p (q.map (Entry.unname a)) = if b = a then 0 else refs b p q := by
  induction q with
  | nil => simp [refs]
  | cons e q ih =>
    rw [List.map_cons, refs_cons, refs_cons, ih]
    have he : (e.unname a).countsFor b p = if b = a then false else e.countsFor b p := by
      unfold Entry.unname
      by_cases hea : e.assoc = some a
      · by_cases hb : b = a
        · simp [hea, hb, Entry.countsFor]
        · have hab : ¬ a = b := fun h => hb h.symm
          simp [hea, hb, hab, Entry.countsFor]
      · by_cases hb : b = a
        · subst hb
          simp [hea, Entry.countsFor]
        · simp [hea, hb]
    rw [he]
    by_cases hb : b = a <;> simp [hb]

theorem inLaneOf_unname (a : AssocId) (q : List Entry) (l : LaneId) : inLaneOf l (q.map (Entry.unname a)) = inLaneOf l q := by
  unfold inLaneOf
  rw [List.countP_map]
  refine List.countP_congr fun e _ => ?_
  simp only [Function.comp, Entry.unname]
  split <;> rfl

/-! ### One write -/

/-- A write of one record that leaves what it counts, with the queues as they are. -/
theorem State.countsSound_setRecord {s : State} (h : s.countsSound) {a : AssocId} {r : Record}
    (hf : ∀ p, r.flight p = (s.record a).flight p) (hl : r.loadingSound) : (s.setRecord a r).countsSound := by
  refine State.countsSound_of_records h (fun _ _ => rfl) rfl rfl (fun b p => ?_) fun b => ?_
  · by_cases hb : b = a
    · subst hb
      rw [State.record_setRecord_same, hf]
    · rw [State.record_setRecord_ne _ _ hb]
  · by_cases hb : b = a
    · subst hb
      rwa [State.record_setRecord_same]
    · rw [State.record_setRecord_ne _ _ hb]
      exact h.2.2 b

/-- R30: a record counts `k` entries more under phase `p`, and so does one queue. -/
theorem State.countsSound_counted {s t : State} (h : s.countsSound) {a : AssocId} {r : Record} {p : Phase} {k : Nat} {d : Dir} {n : LinkId}
    {q : List Entry} (ht : ∀ b, t.record b = (s.setRecord a r).record b) (hlanes : t.lanes = s.lanes)
    (hdevice : t.device.state = s.device.state) (hpath : ∀ d' m, (t.path d' m).queue = ((s.setQueue d n q).path d' m).queue)
    (hf : ∀ p', r.flight p' = (s.record a).flight p' + if p' = p then k else 0)
    (hq : ∀ b p', refs b p' q = refs b p' (s.path d n).queue + if b = a ∧ p' = p then k else 0)
    (hlane : ∀ l, inLaneOf l q = inLaneOf l (s.path d n).queue) (hl : r.loadingSound) : t.countsSound := by
  have hsame : (t.path d n).queue = q := by rw [hpath, State.setQueue, State.path_setPath_same]
  have hne : ∀ d' m, (d', m) ≠ (d, n) → (t.path d' m).queue = (s.path d' m).queue := fun d' m hne => by
    rw [hpath, State.setQueue, State.path_setPath_ne _ _ hne]
  refine State.countsSound_of h (fun b p' => ?_) (fun l d' m => ?_) hlanes hdevice fun b => ?_
  · have hcount := State.countFor_of_path (s := s) (t := t) hne b p'
    rw [hsame, hq, ] at hcount
    rw [ht]
    by_cases hb : b = a
    · subst hb
      rw [State.record_setRecord_same, hf]
      by_cases hp : p' = p <;> simp only [hp, and_self, if_true, and_false, if_false] at hcount ⊢ <;> omega
    · rw [State.record_setRecord_ne _ _ hb]
      simp only [hb, false_and, if_false] at hcount
      omega
  · by_cases hdn : (d', m) = (d, n)
    · obtain ⟨rfl, rfl⟩ := Prod.mk.inj hdn
      rw [hsame, hlane]
    · rw [hne d' m hdn]
  · rw [ht]
    by_cases hb : b = a
    · subst hb
      rwa [State.record_setRecord_same]
    · rw [State.record_setRecord_ne _ _ hb]
      exact h.2.2 b

theorem Record.flight_charge {r : Record} (hr : r.phases.Nodup) {k : Key} (hk : r.cur = some k) (b : Nat) (p : Phase) :
    ({ r with cur := some (k.charge b) } : Record).flight p = r.flight p + if p = k.phase then 1 else 0 := by
  have hr' : ({ r with cur := some (k.charge b) } : Record).phases.Nodup := by
    rw [Record.phases_eq] at hr ⊢
    rw [hk] at hr
    exact hr
  rw [Record.flight_eq hr, Record.flight_eq hr', hk, slotFlight_some, slotFlight_some]
  simp only [Key.charge, eq_comm (a := k.phase)]
  split <;> omega

theorem Record.flight_hold {r : Record} {p : Phase} {k : Key} (hk : r.keyOf p = some k) (p' : Phase) :
    (r.mapKey p Key.hold).flight p' = r.flight p' + if p' = p then 1 else 0 := by
  unfold Record.flight
  rw [Record.keyOf_mapKey r p (f := Key.hold) fun _ => rfl]
  by_cases hp : p' = p
  · subst hp
    simp [hk, slotInFlight, Key.hold]
  · simp [hp]

/-- R71: the staged key comes into service with `count` entries counted more. -/
theorem Record.flight_rollEgress {r : Record} (hr : r.phases.Nodup) {c k k1 : Key} (hc : r.cur = some c) (hk : r.nxt = some k)
    (ho : r.old = none) {count : Nat} (hp : k1.phase = k.phase) (hf : k1.inFlight = k.inFlight + count)
    (hr' : ({ r.rollEgress c k with cur := some k1 } : Record).phases.Nodup) (p : Phase) :
    ({ r.rollEgress c k with cur := some k1 } : Record).flight p = r.flight p + if p = k.phase then count else 0 := by
  rw [Record.flight_eq hr, Record.flight_eq hr', hc, hk, ho]
  have hold : slotFlight p (if c.inFlight = 0 then none else some { c with state := .retiring }) = slotFlight p (some c) := by
    split
    next hz => rw [slotFlight_none, slotFlight_of_zero (k := some c) hz]
    next => simp [slotFlight_some]
  simp only [Record.rollEgress, hold, slotFlight_some, slotFlight_none, hp, hf]
  by_cases hpk : k.phase = p
  · simp only [hpk, if_true]
    omega
  · have hpk' : ¬ p = k.phase := fun h => hpk h.symm
    simp only [hpk, hpk', if_false]
    omega

theorem Record.flight_rollIngress {r : Record} (hr : r.phases.Nodup) {c k : Key} (hc : r.cur = some c) (hk : r.nxt = some k)
    (ho : r.old = none) (deadline : Nat) (hr' : (r.rollIngress c k deadline).phases.Nodup) (p : Phase) :
    (r.rollIngress c k deadline).flight p = r.flight p := by
  rw [Record.flight_eq hr, Record.flight_eq hr', hc, hk, ho]
  simp only [Record.rollIngress, slotFlight_some, slotFlight_none]
  omega

/-- R30, R31, R119: a write keeps every in-flight count exact. -/
theorem State.Write.countsSound {s t : State} (hs : s.storeSound) (h : s.countsSound) (w : s.Write t) : t.countsSound := by
  obtain ⟨hkeys, -⟩ := hs
  have hkeys' : ∀ a, (t.record a).keysSound := fun a => (w.moved a).keysSound (hkeys a)
  have hload : ∀ a, (t.record a).loadingSound := fun a => (w.moved a).loading (hkeys a) (h.2.2 a)
  cases w with
  | link n l he hi _ =>
    refine State.countsSound_of_sameRefs h (fun d m => ?_) rfl rfl fun _ => rfl
    by_cases hm : m = n
    · subst hm
      cases d
      · simpa [State.path, Link.path] using he
      · simpa [State.path, Link.path] using hi
    · simp only [State.path, State.link_setLink_ne _ _ hm]
      exact sameRefs.refl _
  | record a r hm =>
    have hr := hkeys' a
    have hla := hload a
    rw [State.record_setRecord_same] at hr hla
    exact State.countsSound_setRecord h (fun p => hm.flight (hkeys a) hr p) hla
  | shut a st _ _ =>
    have hr := hkeys' a
    have hla := hload a
    rw [State.record_setRecord_same] at hr hla
    refine State.countsSound_setRecord h (fun p => Record.flight_congr (hkeys a).1 hr.1 rfl rfl ?_ p) hla
    rcases (s.record a).old with _ | k <;> rfl
  | charge n a e k hk hne ha =>
    have hla := hload a
    rw [s.takeUnderCur_eq n a e hk] at hla ⊢
    rw [State.append, State.setQueue, State.record_setPath, State.record_setRecord_same] at hla
    have hrefs := refs_append_waiting (e := { e with state := .waiting, pn := some k.n, key := some k.phase }) rfl ha rfl
    exact State.countsSound_counted h (a := a) (p := k.phase) (k := 1) (d := .egress) (n := n) (fun _ => rfl) rfl rfl (fun _ _ => rfl)
      (Record.flight_charge (hkeys a).1 hk _) (fun b p' => hrefs b p' _)
      (fun l => inLaneOf_append_waiting l _ rfl) hla
  | enter n a e p k hk hne ha =>
    have hla := hload a
    rw [State.append, State.setQueue, State.record_setPath, State.record_setRecord_same] at hla
    have hrefs := refs_append_waiting (e := { e with state := .waiting, key := some p }) rfl ha rfl
    exact State.countsSound_counted h (a := a) (p := p) (k := 1) (d := .ingress) (n := n) (fun _ => rfl) rfl rfl (fun _ _ => rfl)
      (Record.flight_hold hk) (fun b p' => hrefs b p' _) (fun l => inLaneOf_append_waiting l _ rfl) hla
  | rollEgress a cause hready hold =>
    obtain ⟨k, hk, -⟩ := slotIs_iff.1 hready
    rcases hc : (s.record a).cur with _ | c
    · rwa [s.rollEgress_of_none a cause (.inl hc)]
    · have hla := hload a
      have hr := hkeys' a
      rw [s.rollEgress_eq a cause hc hk rfl] at hla hr ⊢
      rw [State.record_withControl, State.setQueue, State.record_setPath, State.record_setRecord_same] at hla hr
      obtain ⟨hflight, hrefs, hlane⟩ := releaseHeld_counts a ((s.record a).rollEgress c k) (s.path .egress (s.record a).link).queue
        k.enterService
      exact State.countsSound_counted h (a := a) (p := k.phase) (d := .egress) (n := (s.record a).link) (fun _ => rfl) rfl rfl
        (fun _ _ => rfl) (Record.flight_rollEgress (hkeys a).1 hc hk hold (releaseHeld_key_phase _ _ _ _) hflight hr.1) hrefs hlane hla
  | rollIngress a hready hold =>
    obtain ⟨k, hk, -⟩ := slotIs_iff.1 hready
    rcases hc : (s.record a).cur with _ | c
    · rwa [s.rollIngress_of_none a (.inl hc)]
    · have hla := hload a
      have hr := hkeys' a
      rw [s.rollIngress_eq a hc hk] at hla hr ⊢
      rw [State.record_notify, State.record_setRecord_same] at hla hr
      exact State.countsSound_setRecord (s := s) h (Record.flight_rollIngress (hkeys a).1 hc hk hold _ hr.1) hla
  | empty a after hst _ =>
    have hzero : ∀ p, (s.record a).flight p = 0 := by
      obtain ⟨-, -, hempty⟩ := hkeys a
      obtain ⟨-, hd⟩ | hb := hst
      · exact Record.flight_of_drained (hkeys a).1 hd
      · obtain ⟨h1, h2, h3⟩ := hempty (.inr hb)
        exact Record.flight_of_empty h1 h2 h3
    refine State.countsSound_of h (fun b p => ?_) (fun l d n => ?_) rfl rfl hload
    · have hrec : (((s.setRecord a { Record.blank (s.record a).generation with state := after }).unname a).record b)
        = (s.setRecord a { Record.blank (s.record a).generation with state := after }).record b := rfl
      rw [hrec]
      by_cases hb : b = a
      · subst hb
        have hs0 : s.countFor b p = (s.record b).flight p := h.1 b p
        rw [State.record_setRecord_same, hs0, hzero,
          Record.flight_of_empty (r := { Record.blank (s.record b).generation with state := after }) rfl rfl rfl]
        refine State.countFor_zero fun d n => ?_
        rw [State.path_unname, Path.unname, refs_unname, if_pos rfl]
      · rw [State.record_setRecord_ne _ _ hb]
        refine congrArg (· + _) (State.countFor_congr fun d n => ?_)
        rw [State.path_unname, Path.unname, refs_unname, if_neg hb]
        rfl
    · rw [State.path_unname, Path.unname, inLaneOf_unname]
      rfl
  | stop v ns st body _ _ _ _ =>
    rw [State.notifyAll_eq]
    exact h
  | _ => exact h

/-- R30, R31, R119: so does every sequence of writes. -/
theorem State.Writes.countsSound {s t : State} (w : s.Writes t) (hc : s.controlSound) (hs : s.storeSound) (h : s.countsSound) :
    t.countsSound :=
  (w.keep (P := fun s => s.controlSound ∧ s.storeSound ∧ s.countsSound)
    (fun _ _ ⟨h1, h2, h3⟩ hw => ⟨hw.controlSound h1, hw.storeSound h1 h2, hw.countsSound h2 h3⟩) ⟨hc, hs, h⟩).2.2

end Sys2Proof.Machine
end

section
/-! SUPPORT. In-flight counts through every event (R30, R31, R119 to R121). -/

namespace Sys2Proof.Machine

/-! ### Grants (R119) -/

/-- R30: an entry that is WAITING or IN-LANE is counted for the key it refers to, whichever it is. -/
theorem Entry.countsFor_withLane {e : Entry} (h : e.state = .waiting) (l : LaneId) (a : AssocId) (p : Phase) :
    ({ e with state := .inLane l } : Entry).countsFor a p = e.countsFor a p := by
  simp [Entry.countsFor, h]

theorem refs_grantFirst (l : LaneId) (q : List Entry) (a : AssocId) (p : Phase) : refs a p (grantFirst l q) = refs a p q := by
  induction q with
  | nil => rfl
  | cons e rest ih =>
    unfold grantFirst
    split
    next h => rw [refs_cons, refs_cons, Entry.countsFor_withLane h]
    next => rw [refs_cons, refs_cons, ih]

/-- R119: the first WAITING entry goes IN-LANE with lane `l`. -/
theorem inLaneOf_grantFirst (l : LaneId) {q : List Entry} {e : Entry} (h : q.find? (fun e => e.state == .waiting) = some e) (l' : LaneId) :
    inLaneOf l' (grantFirst l q) = inLaneOf l' q + if l' = l then 1 else 0 := by
  induction q with
  | nil => simp at h
  | cons x rest ih =>
    unfold grantFirst
    split
    next hx =>
      have hx' : ¬ x.state = .inLane l' := by simp [hx]
      rw [inLaneOf_cons, inLaneOf_cons, if_neg hx']
      by_cases hl : l' = l
      · subst hl
        simp only [if_true]
        omega
      · have hl' : ¬ l = l' := fun h => hl h.symm
        simp [hl, hl']
    next hx =>
      rw [List.find?_cons_of_neg (by simpa using hx)] at h
      rw [inLaneOf_cons, inLaneOf_cons, ih h, Nat.add_assoc]

theorem State.countsSound_grant {s : State} (h : s.countsSound) : s.grant.countsSound := by
  obtain he | ⟨l, i, d, n, e, hidle, hfind, he⟩ := s.grant_cases
  · rwa [he]
  · rw [he]
    obtain ⟨h1, ⟨h2, h3⟩, h4⟩ := h
    have hpath : ∀ d' m, ((((s.setQueue d n (grantFirst l (s.path d n).queue)).setLane l (.busy d n (s.fetch n e))).withLastGrant i).path d' m).queue
        = if (d', m) = (d, n) then grantFirst l (s.path d n).queue else (s.path d' m).queue := by
      intro d' m
      split
      next hdm =>
        obtain ⟨rfl, rfl⟩ := Prod.mk.inj hdm
        simp [State.setQueue]
      next hdm => simp [State.setQueue, State.path_setPath_ne _ _ hdm]
    refine ⟨fun a p => ?_, ⟨fun l' d' m => ?_, fun hst => ?_⟩, h4⟩
    · refine Eq.trans (State.countFor_congr fun d' m => ?_) (h1 a p)
      rw [hpath]
      split
      next hdm =>
        obtain ⟨rfl, rfl⟩ := Prod.mk.inj hdm
        exact refs_grantFirst l _ a p
      next => rfl
    · have hold : inLaneOf l' (s.path d' m).queue = _ := h2 l' d' m
      change inLaneOf l' (_ : Path).queue = _
      rw [hpath]
      by_cases hl : l' = l
      · subst hl
        rw [hidle] at hold
        rw [State.lane_withLastGrant, State.lane_setLane_same]
        by_cases hdm : (d', m) = (d, n)
        · obtain ⟨rfl, rfl⟩ := Prod.mk.inj hdm
          rw [if_pos rfl, inLaneOf_grantFirst l' hfind, hold]
          simp
        · rw [if_neg hdm, hold]
          have hne : ¬ (d' = d ∧ m = n) := fun hh => hdm (by rw [hh.1, hh.2])
          simp [hne]
      · rw [State.lane_withLastGrant, State.lane_setLane_ne _ _ hl]
        have hsame : inLaneOf l' (if (d', m) = (d, n) then grantFirst l (s.path d n).queue else (s.path d' m).queue)
            = inLaneOf l' (s.path d' m).queue := by
          split
          next hdm =>
            obtain ⟨rfl, rfl⟩ := Prod.mk.inj hdm
            rw [inLaneOf_grantFirst l hfind, if_neg hl, Nat.add_zero]
          next => rfl
        rw [hsame]
        exact hold
    · have := h3 hst l
      rw [hidle] at this
      exact absurd this (by simp)

/-! ### Completions (R121) -/

theorem inLaneOf_mapLane (l : LaneId) {g : Entry → Entry} (hg : ∀ e, (g e).atRest = true) (q : List Entry) (l' : LaneId) :
    inLaneOf l' (mapLane l g q) = if l' = l then 0 else inLaneOf l' q := by
  induction q with
  | nil => simp [mapLane, inLaneOf]
  | cons e rest ih =>
    change inLaneOf l' ((if e.state = .inLane l then g e else e) :: mapLane l g rest) = _
    rw [inLaneOf_cons, inLaneOf_cons, ih]
    by_cases he : e.state = .inLane l
    · have hrest : ¬ (g e).state = .inLane l' := by simpa using Entry.inLane_of_atRest (hg e) l'
      by_cases hl : l' = l
      · subst hl
        simp [he, hrest]
      · have hl' : ¬ l = l' := fun h => hl h.symm
        simp [he, hrest, hl, hl']
    · by_cases hl : l' = l
      · simp [hl, he]
      · simp [hl, he]

theorem mapLane_of_none {l : LaneId} {q : List Entry} (h : inLaneOf l q = 0) (g : Entry → Entry) : mapLane l g q = q := by
  unfold inLaneOf at h
  rw [List.countP_eq_zero] at h
  refine (List.map_congr_left fun e he => ?_).trans (List.map_id q)
  have := h e he
  simp_all

/-- R30, R121: the entry of a lane that has finished ceases to be counted. -/
theorem refs_mapLane {l : LaneId} {g : Entry → Entry} (hg : ∀ e, (g e).atRest = true) {q : List Entry} (hone : inLaneOf l q ≤ 1)
    {e : Entry} (he : q.find? (fun e => e.state == .inLane l) = some e) (a : AssocId) (p : Phase) :
    refs a p (mapLane l g q) + (if e.countsFor a p then 1 else 0) = refs a p q := by
  induction q with
  | nil => simp at he
  | cons x rest ih =>
    change refs a p ((if x.state = .inLane l then g x else x) :: mapLane l g rest) + _ = _
    rw [inLaneOf_cons] at hone
    by_cases hx : x.state = .inLane l
    · rw [List.find?_cons_of_pos (by simpa using hx)] at he
      obtain rfl := Option.some.inj he
      rw [if_pos hx] at hone ⊢
      rw [mapLane_of_none (by omega), refs_cons, refs_cons, Entry.countsFor_of_atRest (hg x)]
      simp only [Bool.false_eq_true, if_false]
      omega
    · rw [List.find?_cons_of_neg (by simpa using hx)] at he
      rw [if_neg hx] at hone ⊢
      have := ih (by omega) he
      rw [refs_cons, refs_cons]
      omega

/-- What a record must keep for its count to fall: phases, counts and LOADING keys. -/
def Record.alike (r r' : Record) : Prop :=
  (∀ p, r'.flight p = r.flight p) ∧ (r.loadingSound → r'.loadingSound) ∧ (r.phases.Nodup → r'.phases.Nodup)

theorem Record.alike_refl (r : Record) : r.alike r := ⟨fun _ => rfl, id, id⟩

/-- R131: a tag failure is counted in the record and marked in its key. -/
theorem State.recordTagFail_alike (s : State) (a : AssocId) (p : Phase) (pn : Nat) :
    (s.recordTagFail a p pn).links = s.links ∧ (s.recordTagFail a p pn).lanes = s.lanes ∧ (s.recordTagFail a p pn).device = s.device
      ∧ ∀ b, (s.record b).alike ((s.recordTagFail a p pn).record b) := by
  have hset : ∀ r : Record, (s.record a).alike r → ∀ b, (s.record b).alike ((s.setRecord a r).record b) := by
    intro r hr b
    by_cases hb : b = a
    · subst hb
      rwa [State.record_setRecord_same]
    · rw [State.record_setRecord_ne _ _ hb]
      exact Record.alike_refl _
  have hcount : (s.record a).alike { s.record a with tagFails := sat48 (s.record a).tagFails 1 } := ⟨fun _ => rfl, id, id⟩
  unfold State.recordTagFail
  dsimp only
  split
  · split
    · exact ⟨rfl, rfl, rfl, hset _ hcount⟩
    · refine ⟨rfl, rfl, rfl, hset _ ⟨?_, ?_, ?_⟩⟩
      · exact Record.flight_mapKey { s.record a with tagFails := sat48 (s.record a).tagFails 1 } p fun _ => ⟨rfl, rfl⟩
      · exact fun h => Record.loadingSound_mapKey (r := { s.record a with tagFails := sat48 (s.record a).tagFails 1 }) h p fun _ => ⟨rfl, rfl⟩
      · intro h
        rw [Record.phases_eq] at h ⊢
        refine Eq.mp (congrArg List.Nodup ?_) h
        have hm : ∀ x : Option Key, (x.map fun k => if k.phase = p then { k with tagFailed := true } else k).toList.map Key.phase
            = x.toList.map Key.phase := by
          intro x
          rcases x with _ | k
          · rfl
          · simp only [Option.map_some, Option.toList_some, List.map_cons, List.map_nil]
            split <;> rfl
        simp only [Record.mapKey, hm]
  · exact ⟨rfl, rfl, rfl, hset _ hcount⟩

theorem Record.slot_of_keyOf {r : Record} {p : Phase} {k : Key} (h : r.keyOf p = some k) :
    r.cur = some k ∨ r.nxt = some k ∨ r.old = some k := by
  unfold Record.keyOf at h
  have hmem := List.mem_of_find?_eq_some h
  rw [Record.keys_eq] at hmem
  simpa [or_assoc] using hmem

/-- R30: a count that is not 0 falls by 1, and only that of its key. -/
theorem Record.flight_letGo {r : Record} {p : Phase} (h : 1 ≤ r.flight p) (hl : r.loadingSound) (hr : r.phases.Nodup) :
    (∀ p', (r.mapKey p Key.letGo).flight p' + (if p' = p then 1 else 0) = r.flight p') ∧ (r.mapKey p Key.letGo).loadingSound := by
  have hk : ∃ k, r.keyOf p = some k ∧ 1 ≤ k.inFlight := by
    unfold Record.flight at h
    rcases hk : r.keyOf p with _ | k
    · simp [hk, slotInFlight] at h
    · exact ⟨k, rfl, by simpa [hk, slotInFlight] using h⟩
  obtain ⟨k, hk, hpos⟩ := hk
  refine ⟨fun p' => ?_, Record.loadingSound_mapCount hl hr hk (fun hload => ?_) (f := Key.letGo) fun _ => rfl⟩
  · unfold Record.flight
    rw [Record.keyOf_mapKey r p (f := Key.letGo) fun _ => rfl]
    by_cases hp : p' = p
    · subst hp
      simp only [hk, if_true, Option.map_some, slotInFlight, Key.letGo]
      omega
    · simp [hp]
  · have := hl.1 k (Record.slot_of_keyOf hk) hload
    omega

/-- R30: the entry that a count falls for. -/
theorem Entry.countsFor_inLane {e : Entry} {l : LaneId} (hs : e.state = .inLane l) (a : AssocId) (p : Phase) :
    e.countsFor a p = (e.assoc == some a && e.key == some p) := by
  simp [Entry.countsFor, hs]

/-- R30, R121: what the end of a lane's entry does to the record it was counted in. -/
theorem State.letGo_alike {v : State} {e : Entry} {l : LaneId} (hs : e.state = .inLane l)
    (hpos : ∀ a p, e.countsFor a p = true → 1 ≤ (v.record a).flight p) (hl : ∀ a, (v.record a).loadingSound)
    (hr : ∀ a, (v.record a).phases.Nodup) (b : AssocId) :
    (∀ p, ((v.letGo e).record b).flight p + (if e.countsFor b p then 1 else 0) = (v.record b).flight p)
      ∧ ((v.letGo e).record b).loadingSound := by
  have hnone : (∀ a p, e.countsFor a p = false) → (∀ p, (v.record b).flight p + (if e.countsFor b p then 1 else 0) = (v.record b).flight p) :=
    fun h p => by simp [h]
  unfold State.letGo
  rcases ha : e.assoc with _ | a
  · exact ⟨hnone fun a p => by simp [Entry.countsFor_inLane hs, ha], hl b⟩
  · rcases hp : e.key with _ | p
    · exact ⟨hnone fun a p => by simp [Entry.countsFor_inLane hs, hp], hl b⟩
    · dsimp only
      have hcounts : ∀ b p', e.countsFor b p' = decide (b = a ∧ p' = p) := by
        intro b p'
        refine Bool.eq_iff_iff.2 ?_
        simp only [Entry.countsFor_inLane hs, ha, hp, Bool.and_eq_true, beq_iff_eq, Option.some.injEq, decide_eq_true_eq]
        exact and_congr eq_comm eq_comm
      by_cases hb : b = a
      · subst hb
        obtain ⟨hf, hload⟩ := Record.flight_letGo (hpos b p (by simp [hcounts])) (hl b) (hr b)
        rw [State.record_setRecord_same]
        refine ⟨fun p' => ?_, hload⟩
        rw [← hf p', hcounts]
        simp
      · rw [State.record_setRecord_ne _ _ hb]
        exact ⟨fun p' => by simp [hcounts, hb], hl b⟩

/-- R30, R31, R120, R121: the completion of a lane keeps the counts exact. -/
theorem State.countsSound_completeLane {s : State} (hc : s.controlSound) (hs : s.storeSound) (h : s.countsSound) (l : LaneId) :
    (s.completeLane l).countsSound := by
  obtain he | ⟨d, n, f, hbusy, ⟨hnone, -⟩ | ⟨e, p, u, v, g, hfind, hstep, hq, hg, hv, ht⟩⟩ := s.completeLane_cases l
  · rwa [he]
  · have hone : inLaneOf l (s.path d n).queue = _ := h.2.1.1 l d n
    rw [hbusy] at hone
    simp only [and_self, if_true] at hone
    have hzero : inLaneOf l (s.path d n).queue = 0 := by
      rw [List.find?_eq_none] at hnone
      exact List.countP_eq_zero.2 hnone
    omega
  · have hvw := State.completed_writes hv
    have hletGo := v.letGo_frame e
    have hframe := State.pathStep_frame hstep
    obtain ⟨hpath, ⟨-, hbank, -, -, hulanes, -, hudevice, huprov, huctrl, -⟩, -, -, -, -, hother, -⟩ := hframe
    have huc : u.controlSound := State.controlSound_congr hc huctrl (by rw [hbank]; rfl) (by rw [hbank]; rfl) (by rw [huprov]; rfl)
    have hus : u.storeSound := State.storeSound_congr hs (fun a => State.record_pathStep hstep a) (by rw [hbank]; rfl)
      (by rw [hbank]; rfl) (by rw [huctrl]; rfl)
    have hvc := hvw.controlSound huc
    have hvs := hvw.storeSound huc hus
    obtain ⟨hcontrol, hvbank, hvprov, -, hvdevice, hvlinks, -, hvlanes⟩ := hletGo
    have htc : (v.letGo e).controlSound :=
      State.controlSound_congr hvc hcontrol (by rw [hvbank]) (by rw [hvbank]) (by rw [hvprov])
    refine ht.countsSound htc (State.storeSound_letGo hvs e) ?_
    have halike : v.links = u.links ∧ v.lanes = u.lanes ∧ v.device = u.device ∧ ∀ b, (u.record b).alike (v.record b) := by
      obtain rfl | ⟨a, ph, pn, rfl⟩ := hv
      · exact ⟨rfl, rfl, rfl, fun b => Record.alike_refl _⟩
      · exact u.recordTagFail_alike a ph pn
    obtain ⟨hlinks, hlanes, hdevice, halike⟩ := halike
    obtain ⟨h1, ⟨h2, h3⟩, h4⟩ := h
    have hurec : ∀ b, u.record b = s.record b := fun b => State.record_pathStep hstep b
    have hinLane : e.state = .inLane l := by simpa using List.find?_some hfind
    have hone : inLaneOf l (s.path d n).queue = 1 := by
      have hold : inLaneOf l (s.path d n).queue = _ := h2 l d n
      rw [hbusy] at hold
      simpa using hold
    have htpath : ∀ d' m, (v.letGo e).path d' m = u.path d' m := by
      intro d' m
      simp only [State.path, State.link, hvlinks, hlinks]
    have hrefs := refs_mapLane (l := l) hg (hone.le) hfind
    rw [← hq, ← hpath] at hrefs
    have hcount : ∀ b p', (v.letGo e).countFor b p' + (if e.countsFor b p' then 1 else 0) = s.countFor b p' := by
      intro b p'
      have hu : (v.letGo e).countFor b p' = u.countFor b p' := State.countFor_congr fun d' m => by rw [htpath]
      have hone := State.countFor_of_path (s := s) (t := u) (d := d) (n := n) (fun d' m hne => by rw [hother d' m hne]; rfl) b p'
      have := hrefs b p'
      omega
    have hflight : ∀ b p', (v.record b).flight p' = s.countFor b p' := fun b p' => by
      rw [(halike b).1, hurec]
      exact (h1 b p').symm
    have hlet := State.letGo_alike (v := v) hinLane
      (fun b p' hb => by rw [hflight]; have := hcount b p'; rw [if_pos hb] at this; omega)
      (fun b => (halike b).2.1 (hurec b ▸ h4 b)) fun b => (halike b).2.2 (hurec b ▸ (hs.1 b).1)
    refine ⟨fun b p' => ?_, ⟨fun l' d' m => ?_, fun hst => ?_⟩, fun b => (hlet b).2⟩
    · have hb := (hlet b).1 p'
      rw [hflight] at hb
      have := hcount b p'
      change _ = ((v.letGo e).record b).flight p'
      omega
    · have hlane : (v.letGo e).lane l' = (s.setLane l .idle).lane l' := by
        simp only [State.lane, hvlanes, hlanes, hulanes]
      rw [htpath, hlane]
      change inLaneOf l' (u.path d' m).queue = _
      have hold : inLaneOf l' (s.path d' m).queue = _ := h2 l' d' m
      have hnew : inLaneOf l' (u.path d' m).queue
          = if l' = l ∧ (d', m) = (d, n) then 0 else inLaneOf l' (s.path d' m).queue := by
        by_cases hdm : (d', m) = (d, n)
        · obtain ⟨rfl, rfl⟩ := Prod.mk.inj hdm
          rw [hpath, hq, inLaneOf_mapLane l hg]
          simp
        · rw [hother d' m hdm]
          simp [hdm]
      rw [hnew]
      by_cases hl : l' = l
      · subst hl
        rw [State.lane_setLane_same]
        rw [hbusy] at hold
        by_cases hdm : (d', m) = (d, n)
        · simp [hdm]
        · have hne : ¬ (d' = d ∧ m = n) := fun hh => hdm (by rw [hh.1, hh.2])
          simp [hdm, hold, hne]
      · rw [State.lane_setLane_ne _ _ hl]
        simp only [hl, false_and, if_false]
        exact hold
    · have hdev : (v.letGo e).device = s.device := by rw [hvdevice, hdevice, hudevice]; rfl
      have := h3 (hdev ▸ hst) l
      rw [hbusy] at this
      exact absurd this (by simp)

/-! ### Installs (R47 to R50, R126) -/

/-- R47: a key that begins to load counts nothing, and what it replaces counted nothing. -/
theorem Record.flight_setTarget {r : Record} {toNxt : Bool} {k' : Option Key} (hr : r.phases.Nodup)
    (hr' : (r.setTarget toNxt k').phases.Nodup) (hz : slotInFlight (if toNxt then r.nxt else r.cur) = 0) (hz' : slotInFlight k' = 0)
    (p : Phase) : (r.setTarget toNxt k').flight p = r.flight p := by
  rw [Record.flight_eq hr, Record.flight_eq hr']
  cases toNxt
  · have h0 : slotFlight p r.cur = 0 := slotFlight_of_zero hz
    simp [Record.setTarget, slotFlight_of_zero hz', h0]
  · have h0 : slotFlight p r.nxt = 0 := slotFlight_of_zero hz
    simp [Record.setTarget, slotFlight_of_zero hz', h0]

theorem State.countsSound_takeInstall {s : State} {f : InstallFields} (hs : s.storeSound) (h : s.countsSound)
    (hf : s.installCheck f = none) : (s.takeInstall f).countsSound := by
  obtain ⟨-, -, hr, hc, ho⟩ := State.installCheck_none hf
  have hkeys := hs.1 f.index
  have hkeys' := Record.keysSound_setTarget (k := loadingKey f.phase) hkeys hr hc ho
  obtain ⟨hl1, hl2⟩ := h.2.2 f.index
  have hzero : slotInFlight (if f.toNxt then (s.record f.index).nxt else (s.record f.index).cur) = 0 := by
    rw [Record.refusesInstall_iff] at hr
    rcases htn : f.toNxt with _ | _
    · have hopened : (s.record f.index).state = .opened := by simpa [htn] using hr
      rcases hcur : (s.record f.index).cur with _ | k
      · simp [slotInFlight]
      · simpa [slotInFlight] using hl1 k (.inl hcur) (hl2 hopened k hcur)
    · rw [if_pos htn] at hr
      obtain ⟨-, hnxt⟩ := hr
      simp [hnxt, slotInFlight]
  have hload : ((s.record f.index).setTarget f.toNxt (some (loadingKey f.phase))).loadingSound := by
    rcases f.toNxt with _ | _
    · refine ⟨fun k hk hl => ?_, fun _ k hk => ?_⟩
      · obtain hk | hk | hk := hk
        · obtain rfl := Option.some.inj hk
          rfl
        · exact hl1 k (.inr (.inl hk)) hl
        · exact hl1 k (.inr (.inr hk)) hl
      · obtain rfl := Option.some.inj hk
        rfl
    · refine ⟨fun k hk hl => ?_, hl2⟩
      obtain hk | hk | hk := hk
      · exact hl1 k (.inl hk) hl
      · obtain rfl := Option.some.inj hk
        rfl
      · exact hl1 k (.inr (.inr hk)) hl
  exact State.countsSound_setRecord (s := s) h (Record.flight_setTarget hkeys.1 hkeys'.1 hzero rfl) hload

/-- R48: the slot that was loading counted nothing. -/
theorem Record.loading_of_awaits {r : Record} {toNxt : Bool} {p : Phase} (h : r.awaits toNxt p) (hl : r.loadingSound) :
    ∃ k, (if toNxt then r.nxt else r.cur) = some k ∧ k.phase = p ∧ k.inFlight = 0 := by
  obtain ⟨k, hk, hkp⟩ := Option.map_eq_some_iff.1 h.1
  obtain ⟨hstate, hphase⟩ := Prod.mk.inj hkp
  refine ⟨k, hk, hphase, hl.1 k ?_ hstate⟩
  cases toNxt
  · exact .inl hk
  · exact .inr (.inl hk)

theorem State.countsSound_unwrapEnds {s : State} (hs : s.storeSound) (h : s.countsSound) : s.unwrapEnds.countsSound := by
  unfold State.unwrapEnds
  split
  next i hi =>
    obtain ⟨-, -, hawaits⟩ := (s.installSound_iff i).1 (hs.2 i hi)
    obtain ⟨k, hk, -, hz⟩ := Record.loading_of_awaits hawaits (h.2.2 i.index)
    split
    · split
      · exact h
      · have hkeys := hs.1 i.index
        have hkeys' := Record.keysSound_setTarget_none hkeys i.toNxt
        have hf := Record.flight_setTarget hkeys.1 hkeys'.1 (by rw [hk]; exact hz) (k' := none) rfl
        obtain ⟨hl1, hl2⟩ := h.2.2 i.index
        refine State.countsSound_setRecord (s := s) h hf ?_
        rcases i.toNxt with _ | _
        · refine ⟨fun k' hk' hl => ?_, fun _ k' hk' => by simp [Record.setTarget] at hk'⟩
          obtain hk' | hk' := hk'
          · simp [Record.setTarget] at hk'
          · exact hl1 k' (.inr hk') hl
        · refine ⟨fun k' hk' hl => ?_, hl2⟩
          obtain hk' | hk' | hk' := hk'
          · exact hl1 k' (.inl hk') hl
          · simp [Record.setTarget] at hk'
          · exact hl1 k' (.inr (.inr hk')) hl
    · exact h
  next => exact h

/-- R50: the finished key counts nothing yet, and its slot is no longer LOADING. -/
theorem Record.installed_counts {r : Record} {i : Install} (hr : r.keysSound) (ha : r.awaits i.toNxt i.phase) (hl : r.loadingSound)
    (key salt : Bytes) {r' : Record}
    (hr' : r' = if i.toNxt then r.setTarget i.toNxt (some (installedKey r i key salt))
      else { r.setTarget i.toNxt (some (installedKey r i key salt)) with state := .live }) :
    (∀ p, r'.flight p = r.flight p) ∧ r'.loadingSound := by
  obtain ⟨k, hk, hphase, hz⟩ := Record.loading_of_awaits ha hl
  have hkeys' := Record.keysSound_installed hr ha key salt
  rw [← hr'] at hkeys'
  generalize hnew : installedKey r i key salt = k' at *
  have hz' : k'.inFlight = 0 := by rw [← hnew]; rfl
  obtain ⟨hl1, hl2⟩ := hl
  rcases ht : i.toNxt with _ | _
  · rw [ht] at hk hr'
    have hload' : k'.state ≠ .loading := by rw [← hnew]; simp [installedKey, ht]
    simp only [Bool.false_eq_true, if_false] at hr' hk
    subst hr'
    refine ⟨fun p => ?_, fun x hx hload => ?_, by simp⟩
    · rw [Record.flight_eq hr.1, Record.flight_eq hkeys'.1, slotFlight_of_zero (k := r.cur) (by simp [hk, slotInFlight, hz])]
      simp [Record.setTarget, slotFlight_of_zero (k := some k') (by simp [slotInFlight, hz'])]
    · obtain hx | hx | hx := hx
      · obtain rfl := Option.some.inj hx
        exact absurd hload hload'
      · exact hl1 x (.inr (.inl hx)) hload
      · exact hl1 x (.inr (.inr hx)) hload
  · rw [ht] at hk hr'
    have hload' : k'.state ≠ .loading := by rw [← hnew]; simp [installedKey, ht]
    simp only [if_true] at hr' hk
    subst hr'
    refine ⟨Record.flight_setTarget hr.1 hkeys'.1 (by simp [hk, slotInFlight, hz]) (by simp [slotInFlight, hz']), fun x hx hload => ?_, hl2⟩
    obtain hx | hx | hx := hx
    · exact hl1 x (.inl hx) hload
    · obtain rfl := Option.some.inj hx
      exact absurd hload hload'
    · exact hl1 x (.inr (.inr hx)) hload

theorem State.countsSound_installed {s : State} {i : Install} (hs : s.storeSound) (h : s.countsSound) (hi : s.bank.install = some i)
    (key salt : Bytes) : (s.installed i key salt).countsSound := by
  obtain ⟨-, -, hawaits⟩ := (s.installSound_iff i).1 (hs.2 i hi)
  obtain ⟨hf, hl⟩ := Record.installed_counts (hs.1 i.index) hawaits (h.2.2 i.index) key salt rfl
  exact State.countsSound_congr (State.countsSound_setRecord (s := s) h hf hl) (fun _ _ => rfl) rfl rfl fun a => State.record_installed s i key salt a

theorem Entry.isHeldOf_enterHeld {e : Entry} {a : AssocId} (h : e.isHeldOf a = false) (p : Phase) : enterHeld a p e = e := by
  simp [enterHeld, h]

/-- R126: the held envelopes that are entered are counted. -/
theorem refs_enterHeld (a : AssocId) (p : Phase) (q : List Entry) (b : AssocId) (p' : Phase) :
    refs b p' (q.map (enterHeld a p)) = refs b p' q + if b = a ∧ p' = p then (q.filter (Entry.isHeldOf a)).length else 0 := by
  induction q with
  | nil => simp [refs]
  | cons e rest ih =>
    rw [List.map_cons, refs_cons, refs_cons, ih]
    rcases hheld : e.isHeldOf a with _ | _
    · rw [Entry.isHeldOf_enterHeld hheld, List.filter_cons_of_neg (by simp [hheld]), Nat.add_assoc]
    · have hassoc := Entry.isHeldOf_assoc hheld
      have hnew := Entry.countsFor_waiting (e := enterHeld a p e) (a := a) (p := p) (by simp [enterHeld, hheld])
        (by simp [enterHeld, hheld, hassoc]) (by simp [enterHeld, hheld]) b p'
      rw [hnew, List.filter_cons_of_pos hheld, Entry.countsFor_of_atRest (Entry.atRest_of_isHeldOf hheld)]
      by_cases hbp : b = a ∧ p' = p
      · simp only [hbp, and_self, decide_true, if_true, Bool.false_eq_true, if_false, List.length_cons]
        omega
      · simp [hbp]

theorem inLaneOf_enterHeld (a : AssocId) (p : Phase) (q : List Entry) (l : LaneId) : inLaneOf l (q.map (enterHeld a p)) = inLaneOf l q := by
  induction q with
  | nil => rfl
  | cons e rest ih =>
    rw [List.map_cons, inLaneOf_cons, inLaneOf_cons, ih]
    rcases hheld : e.isHeldOf a with _ | _
    · rw [Entry.isHeldOf_enterHeld hheld]
    · have hrest := Entry.inLane_of_atRest (Entry.atRest_of_isHeldOf hheld) l
      have hnew : (enterHeld a p e).state = .waiting := by simp [enterHeld, hheld]
      simp_all

theorem State.countsSound_admitHeld {s : State} (h : s.countsSound) (n : LinkId) {a : AssocId} {p : Phase} {k : Key}
    (hr : (s.record a).phases.Nodup) (hk : (s.record a).keyOf p = some k) (hload : k.state ≠ .loading) :
    (s.admitHeld n a p).countsSound := by
  refine State.countsSound_counted h (a := a) (p := p) (k := ((s.path .ingress n).queue.filter (Entry.isHeldOf a)).length) (d := .ingress)
    (n := n) (fun b => State.record_admitHeld s n a p b) rfl rfl (fun _ _ => rfl) (fun p' => ?_) (refs_enterHeld a p _)
    (inLaneOf_enterHeld a p _) (Record.loadingSound_mapCount (h.2.2 a) hr hk hload fun _ => rfl)
  generalize ((s.path .ingress n).queue.filter (Entry.isHeldOf a)).length = m
  unfold Record.flight
  rw [Record.keyOf_mapKey (s.record a) p (f := fun k => { k with inFlight := k.inFlight + m }) fun _ => rfl]
  by_cases hp : p' = p
  · subst hp
    simp [hk, slotInFlight]
  · simp [hp]

theorem State.countsSound_admitted {s : State} {i : Install} (hc : s.controlSound) (hs : s.storeSound) (h : s.countsSound)
    (hi : s.bank.install = some i) (key salt : Bytes) : (s.admitted i key salt).countsSound := by
  have hin := State.countsSound_installed hs h hi key salt
  obtain ⟨-, he⟩ | ⟨ht, u, n, hw, hr, -, -, he⟩ := s.admitted_cases i key salt
  · rwa [he]
  · obtain ⟨-, -, hawaits⟩ := (s.installSound_iff i).1 (hs.2 i hi)
    obtain ⟨-, hstop, hprog, hattends⟩ := State.install_alone hc hi
    have hkeys : ∀ a, ((s.installed i key salt).record a).keysSound := fun a => by
      rw [State.record_installed]
      exact State.keysSound_setRecord hs.1 (Record.keysSound_installed (hs.1 i.index) hawaits key salt) a
    have hnxt : ((s.installed i key salt).record i.index).nxt = some (installedKey (s.record i.index) i key salt) := by
      rw [State.record_installed, State.record_setRecord_same, ht]
      rfl
    have hic : (s.installed i key salt).controlSound := State.controlSound_attends (s := s.installed i key salt) hattends
      (by simp [State.installed, State.endInstall]) (fun hn => absurd hstop hn) (by simp [State.installed, State.endInstall, hprog])
    have hcounts := hw.countsSound hic (State.storeSound_of_keys hkeys rfl) hin
    rw [he]
    have hslot := Record.keyOf_of_slot (hkeys i.index).1 (.inr (.inl hnxt))
    refine State.countsSound_admitHeld hcounts n (k := installedKey (s.record i.index) i key salt) (by rw [hr]; exact (hkeys i.index).1) ?_ ?_
    · rw [hr]
      exact hslot
    · simp [installedKey, ht]

theorem State.countsSound_completeInstall {s : State} {i : Install} (hc : s.controlSound) (hs : s.storeSound) (h : s.countsSound)
    (hi : s.bank.install = some i) (key salt : Bytes) : (s.completeInstall i key salt).countsSound := by
  obtain ⟨u, body, hw, hu⟩ := s.completeInstall_steps i key salt
  obtain ⟨hexec, hstop, hprog, hattends⟩ := State.install_alone hc hi
  obtain ⟨-, -, hawaits⟩ := (s.installSound_iff i).1 (hs.2 i hi)
  obtain ⟨hctrl, hbank, hprov⟩ := s.admitted_frame i key salt
  have hkeys := State.keysSound_admitted hs.1 hawaits key salt
  have hcounts := State.countsSound_admitted hc hs h hi key salt
  generalize s.admitted i key salt = v at *
  have hvc : v.controlSound := State.controlSound_attends (hctrl ▸ hattends) (by simp [hbank]) (by simp [hbank, hstop]) (by simp [hprov, hprog])
  have hvs : v.storeSound := State.storeSound_of_keys hkeys (by rw [hbank])
  obtain ⟨-, -, -, -, hup, hui⟩ := hw.frame
  obtain ⟨hquiet, hus⟩ := hw.quiet (by rw [hbank]; exact hstop)
  have hui : u.bank.install = none := by rw [hui, hbank]
  have hanswered : (u.answerOnce .ok Flags.none body).controlSound :=
    State.controlSound_answer ((hctrl ▸ hattends).quiet hquiet) hui hus (by rw [hup, hprov, hprog]) _ _ _ _
  rw [hu]
  exact (State.finish_writes _ _ _).countsSound hanswered
    (State.storeSound_of_keys (s := u.answerOnce .ok Flags.none body) (hw.storeSound hvc hvs).1 hui) (hw.countsSound hvc hvs hcounts)

/-! ### Resets and zeroizations -/

/-- With every queue empty and every record blank, nothing counts. -/
theorem State.countsSound_of_empty {s : State} (hq : ∀ d n, (s.path d n).queue = []) (hr : ∀ a, ∃ g, s.record a = Record.blank g)
    (hl : ∀ l d n f, s.lane l ≠ .busy d n f) (hd : s.device.state = .starting ∨ s.device.state = .inReset → ∀ l, s.lane l = .failed) :
    s.countsSound := by
  refine ⟨fun a p => ?_, ⟨fun l d n => ?_, hd⟩, fun a => ?_⟩
  · obtain ⟨g, hg⟩ := hr a
    have hz : slotInFlight ((Record.blank g).keyOf p) = 0 := Record.flight_of_empty (r := Record.blank g) rfl rfl rfl p
    rw [hg, hz]
    exact State.countFor_zero fun d n => by rw [hq]; rfl
  · rw [hq]
    split
    next d' n' f hbusy => exact absurd hbusy (hl l d' n' f)
    next => rfl
  · obtain ⟨g, hg⟩ := hr a
    rw [hg]
    exact Record.loadingSound_blank g .empty

theorem Lane.abort_ne_busy (v : Lane) (d : Dir) (n : LinkId) (f : Fetched) : v.abort ≠ .busy d n f := by
  cases v <;> simp [Lane.abort]

theorem State.countsSound_zeroizeAll {s : State} (h : s.countsSound) : s.zeroizeAll.countsSound := by
  refine State.countsSound_of_empty (fun d n => ?_) (fun a => ⟨_, s.record_zeroizeAll a⟩) (fun l d n f => ?_) fun hst l => ?_
  · rw [State.path_zeroizeAll]
    rfl
  · rw [State.lane_zeroizeAll]
    exact Lane.abort_ne_busy _ d n f
  · rw [State.device_zeroizeAll] at hst
    rw [State.lane_zeroizeAll, h.2.1.2 hst l]
    rfl

theorem State.countsSound_softResetAll {s : State} (h : s.countsSound) : s.softResetAll.countsSound := by
  refine State.countsSound_of_empty (fun d n => ?_) (fun a => ⟨_, s.record_softResetAll a⟩) (fun l d n f => ?_) fun hst l => ?_
  · rw [State.path, State.link_softResetAll]
    cases d <;> rfl
  · rw [State.lane_softResetAll]
    exact Lane.abort_ne_busy _ d n f
  · rw [State.softResetAll_eq] at hst
    rw [State.lane_softResetAll, h.2.1.2 hst l]
    rfl

theorem State.countsSound_hardResetNow (s : State) : s.hardResetNow.countsSound := by
  refine State.countsSound_of_empty (fun d n => ?_) (fun a => ⟨_, s.record_hardResetNow a⟩) (fun l d n f => ?_) fun _ l => s.lane_hardResetNow l
  · rw [State.path, State.link_hardResetNow]
    cases d <;> rfl
  · rw [State.lane_hardResetNow]
    simp

theorem State.countsSound_withControl {s : State} (h : s.countsSound) (c : Control) : (s.withControl c).countsSound := h

theorem State.countsSound_withDevice {s : State} (h : s.countsSound) {v : Device} (hv : v.state = s.device.state) :
    (s.withDevice v).countsSound :=
  State.countsSound_congr h (fun _ _ => rfl) rfl hv fun _ => rfl

theorem State.countsSound_powerOn (s : State) (ctrlRate wrapOnly : Bool) : (s.powerOn ctrlRate wrapOnly).countsSound := by
  obtain ⟨h1, ⟨h2, -⟩, h4⟩ := (s.withProv s.prov.finish).countsSound_hardResetNow
  exact ⟨h1, ⟨h2, fun _ => (s.withProv s.prov.finish).lane_hardResetNow⟩, h4⟩

/-- R118, R175: before the self-test no lane is BUSY, and after it none is. -/
theorem State.countsSound_selfTest {s : State} (h : s.countsSound) (hd : s.device.state = .starting) (passed : BitVec 8) {st : DeviceState}
    (h1 : st ≠ .starting) (h2 : st ≠ .inReset) :
    ((s.withLanes (testedLanes passed)).withDevice { s.device with state := st }).countsSound := by
  refine ⟨h.1, ⟨fun l d n => ?_, fun hst => ?_⟩, h.2.2⟩
  · have hfailed := h.2.1.2 (.inl hd) l
    have hzero := h.2.1.1 l d n
    rw [hfailed] at hzero
    have hlane : ∀ d' n' f, (s.withLanes (testedLanes passed)).lane l ≠ .busy d' n' f := by
      intro d' n' f
      simp only [State.lane, State.withLanes, testedLanes, Fin.getElem_fin, Vector.getElem_ofFn]
      split <;> simp
    refine Eq.trans (b := 0) hzero ?_
    rw [State.lane_withDevice]
    split
    next d' n' f hbusy => exact absurd hbusy (hlane d' n' f)
    next => rfl
  · exact absurd hst (by simp [h1, h2])

/-- R30, R31, R119 to R121: every event keeps the in-flight counts exact. -/
theorem State.Event.countsSound {s t : State} (hc : s.controlSound) (hs : s.storeSound) (h : s.countsSound) (he : s.Event t) :
    t.countsSound := by
  cases he with
  | writes t hw => exact hw.writes.countsSound hc hs h
  | reply u st fl k body _ hw => exact hw.writes.countsSound hc hs h
  | item u next left done fl data _ hw => exact hw.writes.countsSound hc hs h
  | takeInstall u f _ hw hf => exact State.countsSound_takeInstall (hw.writes.storeSound hc hs) (hw.writes.countsSound hc hs h) hf
  | awaitBoundary stop _ => exact h
  | program f _ _ => exact h
  | softReset _ =>
    obtain ⟨c, hc⟩ := s.softReset_pump .ok Flags.none []
    rw [hc]
    exact State.countsSound_withControl (State.countsSound_softResetAll h) c
  | zeroize _ =>
    obtain ⟨c, hc⟩ := s.zeroizeByRequest_pump
    rw [hc]
    exact State.countsSound_withControl (State.countsSound_withDevice (State.countsSound_zeroizeAll h) (by rw [State.device_zeroizeAll])) c
  | zeroizeInput _ =>
    obtain ⟨c, hc⟩ := s.zeroizeInput_pump
    rw [hc]
    exact State.countsSound_withControl (State.countsSound_withDevice (State.countsSound_zeroizeAll h) (by rw [State.device_zeroizeAll])) c
  | startUp ctrlRate wrapOnly hstate =>
    obtain ⟨h1, ⟨h2, h3⟩, h4⟩ := h
    exact ⟨h1, ⟨h2, fun _ => h3 (.inr hstate)⟩, h4⟩
  | selfTest passed unwrap hstate =>
    obtain ⟨st, hst1, hst2, hw⟩ := s.endSelfTest_writes passed unwrap
    exact hw.countsSound (State.controlSound_congr hc rfl rfl rfl rfl) (State.storeSound_congr hs (fun _ => rfl) rfl rfl rfl)
      (State.countsSound_selfTest h hstate passed hst1 hst2)
  | programmed =>
    unfold State.endProgramming
    split
    · dsimp only
      split
      · exact (s.withProv s.prov.finish).countsSound_hardResetNow
      · exact h
    · exact h
  | received bs =>
    unfold State.receiveAll
    split <;> exact h
  | abandoned bs =>
    unfold State.receiveThenAbandon
    split <;> exact h
  | frameSent => exact h
  | unwrapped => exact State.countsSound_unwrapEnds hs h
  | expanded =>
    unfold State.expansionEnds
    split
    next i hi =>
      split
      · exact State.countsSound_completeInstall hc hs h hi _ _
      · exact h
    next => exact h
  | grant => exact State.countsSound_grant h
  | laneDone l => exact State.countsSound_completeLane hc hs h l

theorem State.countsSound_assertReset {s : State} (h : s.countsSound) : s.assertReset.countsSound := by
  unfold State.assertReset
  split
  · exact h
  · exact s.countsSound_hardResetNow

end Sys2Proof.Machine
end

section
/-! Certificates: the in-flight counts (R30, R31). -/

namespace Sys2Proof.Machine

/-- Settles O6. -/
theorem inFlightCountsStayExact : Obligations.InFlightCountsStayExact := by
  intro s t hc hs hn h
  exact (step_keeps (P := fun s => s.controlSound ∧ s.storeSound ∧ s.countsSound) (fun _ _ h => h) (fun _ _ h => h)
    (fun _ ⟨h1, h2, h3⟩ => ⟨State.controlSound_assertReset h1, State.storeSound_assertReset h2, State.countsSound_assertReset h3⟩)
    (fun s c w _ => ⟨s.controlSound_powerOn c w, (s.withProv s.prov.finish).storeSound_hardResetNow,
      s.countsSound_powerOn c w⟩)
    (fun _ _ ⟨h1, h2, h3⟩ he => ⟨he.controlSound h1, he.storeSound h1 h2, he.countsSound h1 h2 h3⟩) ⟨hc, hs, hn⟩ h).2.2

end Sys2Proof.Machine
end

section
/-! SUPPORT. The cells of every buffer through grants, completions, installs, zeroizations and resets (R108, R113, R142). -/

namespace Sys2Proof.Machine

/-! ### Grants and completions of lanes (R119, R121) -/

/-- R119: a grant keeps every entry in its place with its cells. -/
theorem grantFirst_queue (l : LaneId) (q : List Entry) :
    (grantFirst l q).length = q.length ∧ ((grantFirst l q).map Entry.cells).sum = (q.map Entry.cells).sum
      ∧ (∀ e ∈ grantFirst l q, e.isDropped = true → e ∈ q) ∧ heldCount (grantFirst l q) = heldCount q := by
  induction q with
  | nil => exact ⟨rfl, rfl, fun e he _ => he, rfl⟩
  | cons e rest ih =>
    obtain ⟨h1, h2, h3, h4⟩ := ih
    unfold grantFirst
    split
    next hw =>
      refine ⟨rfl, rfl, fun x hx hd => ?_, ?_⟩
      · obtain rfl | hx := List.mem_cons.1 hx
        · simp [Entry.isDropped] at hd
        · exact List.mem_cons_of_mem _ hx
      · simp [heldCount, Entry.isHeld, hw]
    next =>
      refine ⟨by simp [h1], by simp [h2], fun x hx hd => ?_, ?_⟩
      · obtain rfl | hx := List.mem_cons.1 hx
        · exact List.mem_cons_self
        · exact List.mem_cons_of_mem _ (h3 x hx hd)
      · unfold heldCount at h4 ⊢
        rw [List.filter_cons, List.filter_cons]
        split <;> simp [h4]

theorem State.conserves_grant (s : State) : s.Conserves s.grant := by
  obtain he | ⟨l, i, d, n, e, -, -, he⟩ := s.grant_cases
  · rw [he]
    exact .refl s
  · obtain ⟨h1, h2, h3, h4⟩ := grantFirst_queue l (s.path d n).queue
    have hq : s.Takes (s.setQueue d n (grantFirst l (s.path d n).queue)) d n 0 0 := by
      refine s.takes_setPath fun ht => ⟨fun e he hd => ht e (h3 e he hd) hd, ?_, by simp [h1], fun hm => h4.trans_le hm⟩
      simp [Path.cellsHeld, h2]
    rw [he]
    exact hq.conserves.trans (.of_links rfl)

/-- R121: the entry of a lane becomes one that is neither HELD nor DROPPED and keeps its cells. -/
theorem State.conserves_mapLane (s : State) (l : LaneId) (d : Dir) (n : LinkId) {g : Entry → Entry} (hcells : ∀ e, (g e).cells = e.cells)
    (hdrop : ∀ e, (g e).isDropped = false) (hheld : ∀ e, (g e).isHeld = false) :
    s.Conserves (s.setQueue d n (mapLane l g (s.path d n).queue)) := by
  refine s.conserves_mapQueue d n (f := fun e => if e.state = .inLane l then g e else e) (fun e => ?_) (fun e he => ?_) fun e he => ?_
  · split
    · exact hcells e
    · rfl
  · split at he
    · simp [hdrop] at he
    · exact he
  · split at he
    · simp [hheld] at he
    · exact he

theorem State.conserves_recordTagFail (s : State) (a : AssocId) (p : Phase) (pn : Nat) : s.Conserves (s.recordTagFail a p pn) := by
  refine .of_links ?_
  unfold State.recordTagFail
  dsimp only
  split
  · split <;> rfl
  · rfl

theorem State.conserves_completeEntry (s : State) (l : LaneId) (d : Dir) (n : LinkId) (f : Fetched) (e : Entry) :
    s.Conserves (s.completeEntry l d n f e) := by
  unfold State.completeEntry
  split
  · exact s.conserves_mapLane l _ n (fun _ => rfl) (fun _ => rfl) fun _ => rfl
  · split
    · exact s.conserves_mapLane l _ n (fun _ => rfl) (fun _ => rfl) fun _ => rfl
    · have hdrop := s.conserves_dropEntries .ingress n (fun e => e.state == .inLane l) .tagFail
      dsimp only
      split
      · exact hdrop.trans (State.conserves_recordTagFail _ _ _ _)
      · exact hdrop

theorem State.conserves_lowerCount (s : State) (e : Entry) : s.Conserves (s.lowerCount e) := by
  unfold State.lowerCount
  split
  · exact (s.conserves_setRecord _ _).trans (State.conserves_storeActs _ _)
  · exact .refl s

theorem State.conserves_completeLane (s : State) (l : LaneId) : s.Conserves (s.completeLane l) := by
  unfold State.completeLane
  split
  · dsimp only
    have hidle : s.Conserves (s.setLane l .idle) := .of_links rfl
    split
    · exact ((hidle.trans (State.conserves_completeEntry _ _ _ _ _ _)).trans (State.conserves_lowerCount _ _)).trans
        (State.conserves_finish _ _ _)
    · exact hidle
  · exact .refl s

/-! ### Installs (R47 to R50, R126) -/

theorem State.conserves_admitHeld (s : State) (n : LinkId) (a : AssocId) (p : Phase) : s.Conserves (s.admitHeld n a p) := by
  unfold State.admitHeld
  refine (s.conserves_mapQueue .ingress n (fun e => ?_) (fun e he => ?_) fun e he => ?_).trans (State.conserves_setRecord _ a _)
  · unfold enterHeld
    split <;> rfl
  · unfold enterHeld at he
    split at he
    · simp [Entry.isDropped] at he
    · exact he
  · unfold enterHeld at he
    split at he
    · simp [Entry.isHeld] at he
    · exact he

theorem State.conserves_admitted (s : State) (i : Install) (key salt : Bytes) : s.Conserves (s.admitted i key salt) := by
  have hin : s.Conserves (s.installed i key salt) := .of_links rfl
  unfold State.admitted
  split
  · refine hin.trans ?_
    generalize s.installed i key salt = v, installedKey (s.record i.index) i key salt = k
    unfold State.releaseIngressHold
    exact ((((v.conserves_dropEntries _ _ _ _).trans (State.conserves_dropEntries _ _ _ _ _)).trans
      (State.conserves_dropEntries _ _ _ _ _)).trans (State.conserves_dropEntries _ _ _ _ _)).trans
      (State.conserves_admitHeld _ _ i.index k.phase)
  · exact hin

theorem State.conserves_completeInstall (s : State) (i : Install) (key salt : Bytes) : s.Conserves (s.completeInstall i key salt) := by
  have hroll : s.Conserves (if i.toNxt then (s.admitted i key salt).deferredRollover i.index else s.admitted i key salt) := by
    split
    · exact (s.conserves_admitted i key salt).trans (State.conserves_deferredRollover _ _)
    · exact s.conserves_admitted i key salt
  unfold State.completeInstall
  exact (hroll.trans (u := State.answerOnce _ _ _ _) (.of_links rfl)).trans (State.conserves_finish _ _ _)

theorem State.conserves_expansionEnds (s : State) : s.Conserves s.expansionEnds := by
  unfold State.expansionEnds
  split
  · split
    · exact s.conserves_completeInstall _ _ _
    · exact .refl s
  · exact .refl s

theorem State.conserves_unwrapEnds (s : State) : s.Conserves s.unwrapEnds := by
  unfold State.unwrapEnds
  split
  · split
    · split <;> exact .of_links rfl
    · exact .refl s
  · exact .refl s

/-! ### Zeroization and resets (R122, R180, R182, R183) -/

/-- The cells of a queue are those of its DROPPED entries, which are none, and those of the others. -/
theorem Path.cellsOf_live {p : Path} (h : p.tidy) : cellsOf p.queue (fun e => !e.isDropped) = (p.queue.map Entry.cells).sum := by
  unfold Path.tidy at h
  unfold cellsOf
  generalize p.queue = q at h ⊢
  induction q with
  | nil => rfl
  | cons e rest ih =>
    have hrest := ih fun x hx => h x (List.mem_cons_of_mem _ hx)
    rcases he : e.isDropped with _ | _
    · simp [he, hrest]
    · simp [he, hrest, h e List.mem_cons_self he]

/-- R122: an emptied queue has given its cells back. -/
theorem Path.sound_of_emptied {p p' : Path} (h : p.sound) (hf : p'.free = p.emptied.free) (hs : p'.stored = p.stored) (hq : p'.queue = []) :
    p'.sound := by
  obtain ⟨hcells, htidy, -, -⟩ := h
  have hlive := Path.cellsOf_live htidy
  have hfree : p'.free = p.free + cellsOf p.queue (fun e => !e.isDropped) := hf
  refine ⟨?_, by simp [hq], by simp [hq], by simp [hq, heldCount]⟩
  simp only [Path.cellsHeld, hs, hq] at hcells ⊢
  simp only [List.map_nil, List.sum_nil]
  omega

/-- R183: a blank buffer has all its cells. -/
theorem Path.sound_blank : Path.blank.sound :=
  ⟨rfl, fun _ h => absurd h List.not_mem_nil, Nat.zero_le _, Nat.zero_le _⟩

theorem State.buffersSound_of_links {s t : State} (h : s.buffersSound) (hlinks : t.links = s.links) : t.buffersSound :=
  State.Conserves.sound (.of_links hlinks) h

theorem State.buffersSound_withControl {s : State} (h : s.buffersSound) (c : Control) : (s.withControl c).buffersSound := h

theorem State.buffersSound_withDevice {s : State} (h : s.buffersSound) (v : Device) : (s.withDevice v).buffersSound := h

theorem State.buffersSound_zeroizeAll {s : State} (h : s.buffersSound) : s.zeroizeAll.buffersSound := by
  intro d n
  rw [State.path_zeroizeAll]
  exact Path.sound_of_emptied (h d n) rfl rfl rfl

theorem State.buffersSound_softResetAll {s : State} (h : s.buffersSound) : s.softResetAll.buffersSound := by
  intro d n
  rw [State.path, State.link_softResetAll]
  cases d
  · exact Path.sound_of_emptied (h .egress n) rfl rfl rfl
  · exact Path.sound_of_emptied (h .ingress n) rfl rfl rfl

theorem State.buffersSound_hardResetNow (s : State) : s.hardResetNow.buffersSound := by
  intro d n
  rw [State.path, State.link_hardResetNow]
  cases d <;> exact Path.sound_blank

theorem State.buffersSound_assertReset {s : State} (h : s.buffersSound) : s.assertReset.buffersSound := by
  unfold State.assertReset
  split
  · exact h
  · exact s.buffersSound_hardResetNow

theorem State.conserves_endSelfTest (s : State) (passed : BitVec 8) (unwrap : Bool) : s.Conserves (s.endSelfTest passed unwrap) := by
  unfold State.endSelfTest
  generalize (if passed ≠ 0 ∧ unwrap = true then DeviceState.running else .failed) = st
  have hstate : s.Conserves (((s.withLanes (testedLanes passed)).withDevice { s.device with state := st }).notify
      (.startedUp st passed unwrap)) := .of_links rfl
  dsimp only
  split
  · exact hstate.trans (State.conserves_raisePorts _)
  · exact hstate

/-- R108, R113, R142: every event keeps the cells of every buffer accounted for and every order queue within its bounds. -/
theorem State.Event.buffersSound {s t : State} (h : s.buffersSound) (he : s.Event t) : t.buffersSound := by
  cases he with
  | writes t hw => exact hw.buffers h
  | reply u st fl k body _ hw => exact hw.buffers h
  | item u next left done fl data _ hw => exact hw.buffers h
  | takeInstall u f _ hw _ => exact State.buffersSound_of_links (hw.buffers h) rfl
  | awaitBoundary stop _ => exact h
  | program f _ _ => exact h
  | softReset _ =>
    obtain ⟨c, hc⟩ := s.softReset_pump .ok Flags.none []
    rw [hc]
    exact State.buffersSound_withControl (State.buffersSound_softResetAll h) c
  | zeroize _ =>
    obtain ⟨c, hc⟩ := s.zeroizeByRequest_pump
    rw [hc]
    exact State.buffersSound_withControl (State.buffersSound_withDevice (State.buffersSound_zeroizeAll h) _) c
  | zeroizeInput _ =>
    obtain ⟨c, hc⟩ := s.zeroizeInput_pump
    rw [hc]
    exact State.buffersSound_withControl (State.buffersSound_withDevice (State.buffersSound_zeroizeAll h) _) c
  | startUp ctrlRate wrapOnly _ => exact h
  | selfTest passed unwrap _ => exact ((s.conserves_endSelfTest passed unwrap).trans (State.conserves_pump _)).sound h
  | programmed =>
    unfold State.endProgramming
    split
    · dsimp only
      split
      · exact (s.withProv s.prov.finish).buffersSound_hardResetNow
      · exact h
    · exact h
  | received bs =>
    unfold State.receiveAll
    split <;> exact h
  | abandoned bs =>
    unfold State.receiveThenAbandon
    split <;> exact h
  | frameSent => exact h
  | unwrapped => exact s.conserves_unwrapEnds.sound h
  | expanded => exact s.conserves_expansionEnds.sound h
  | grant => exact s.conserves_grant.sound h
  | laneDone l => exact (s.conserves_completeLane l).sound h

/-! ### The reset state -/

theorem State.record_reset (a : AssocId) : State.reset.record a = Record.blank 0 := by
  simp [State.reset, State.record]

theorem State.link_reset (n : LinkId) : State.reset.link n = Link.blank false false := by
  simp [State.reset, State.link]

theorem State.lane_reset (l : LaneId) : State.reset.lane l = .failed := by
  simp [State.reset, State.lane]

end Sys2Proof.Machine
end

section
/-! Certificates: the buffers (R108, R142) and the reset state (R183). -/

namespace Sys2Proof.Machine

/-- Settles O2. -/
theorem buffersStaySound : Obligations.BuffersStaySound := by
  intro s t hs h
  exact step_keeps (P := State.buffersSound) (fun _ _ h => h) (fun _ _ h => h) (fun _ => State.buffersSound_assertReset)
    (fun s _ _ _ => State.buffersSound_of_links (s.withProv s.prov.finish).buffersSound_hardResetNow rfl)
    (fun _ _ => State.Event.buffersSound) hs h

/-- Settles O7: every part of the reset state is blank. -/
theorem resetIsSound : Obligations.ResetIsSound := by
  refine ⟨fun d n => ?_, ?_, ⟨fun n => ?_, fun a => ?_⟩, ?_, ?_⟩
  · rw [State.path, State.link_reset]
    cases d <;> exact Path.sound_blank
  · decide
  · rw [State.params, State.link_reset]
    decide
  · rw [State.record_reset]
    decide
  · exact State.storeSound_of_keys (fun a => by rw [State.record_reset]; exact Record.keysSound_blank 0) rfl
  · refine State.countsSound_of_empty (fun d n => ?_) (fun a => ⟨0, State.record_reset a⟩) (fun l d n f => ?_) fun _ l => State.lane_reset l
    · rw [State.path, State.link_reset]
      cases d <;> rfl
    · rw [State.lane_reset]
      simp

end Sys2Proof.Machine
end

section
/-! SUPPORT. Windows that refuse a number for ever, the numbers a key assigns, and what the flow table finds (R67, R96 to R100, R130). -/

namespace Sys2Proof.Machine

/-! ### The acceptance window (R128, R130) -/

theorem Window.test_ne_none_iff (w : Window) (p : Nat) :
    w.test p ≠ none ↔ p = 0 ∨ (w.size < w.high ∧ p ≤ w.high - w.size) ∨ p ∈ w.marked := by
  unfold Window.test
  split
  next h => simp [h]
  next h =>
    split
    next hl => simp [hl]
    next hl =>
      split
      next hm => simp [hm]
      next hm => simp [h, hl, hm]

/-- R128: what is marked lies at or below H. -/
def Window.marksBelow (w : Window) : Prop := ∀ m ∈ w.marked, m ≤ w.high

theorem Window.accept_of_lt {w : Window} {p : Nat} (h : w.high < p) :
    w.accept p = { w with high := p, marked := if w.size = 0 then [] else p :: w.marked.filter fun m => p < m + w.size } := if_pos h

theorem Window.accept_of_le {w : Window} {p : Nat} (h : p ≤ w.high) : w.accept p = { w with marked := p :: w.marked } :=
  if_neg (Nat.not_lt.2 h)

theorem Window.marksBelow_accept {w : Window} (h : w.marksBelow) (p : Nat) : (w.accept p).marksBelow := by
  intro m hm
  obtain hp | hp := Nat.lt_or_ge w.high p
  · rw [Window.accept_of_lt hp] at hm ⊢
    dsimp only at hm ⊢
    split at hm
    · simp at hm
    · obtain rfl | hm := List.mem_cons.1 hm
      · exact le_rfl
      · exact (h m (List.mem_filter.1 hm).1).trans hp.le
  · rw [Window.accept_of_le hp] at hm ⊢
    obtain rfl | hm := List.mem_cons.1 hm
    · exact hp
    · exact h m hm

/-- R130: a number that has passed is refused from then on. -/
theorem Window.refuses_accepted {w : Window} {p : Nat} (hp : w.test p = none) : (w.accept p).test p ≠ none := by
  have hpos : p ≠ 0 := fun h => by simp [h] at hp
  rw [Window.test_ne_none_iff]
  obtain hlt | hle := Nat.lt_or_ge w.high p
  · rw [Window.accept_of_lt hlt]
    dsimp only
    split
    next hsize => exact .inr (.inl (by omega))
    next => exact .inr (.inr List.mem_cons_self)
  · rw [Window.accept_of_le hle]
    exact .inr (.inr List.mem_cons_self)

/-- R128, R130: what a window refuses it goes on refusing: a number leaves the marked ones only when it has become LATE. -/
theorem Window.refuses_accept {w : Window} (h : w.marksBelow) {m : Nat} (hm : w.test m ≠ none) (p : Nat) : (w.accept p).test m ≠ none := by
  rw [Window.test_ne_none_iff] at hm ⊢
  obtain hlt | hle := Nat.lt_or_ge w.high p
  · rw [Window.accept_of_lt hlt]
    dsimp only
    obtain rfl | ⟨hhigh, hlate⟩ | hmark := hm
    · exact .inl rfl
    · exact .inr (.inl (by omega))
    · have hbelow := h m hmark
      obtain rfl | hpos := Nat.eq_zero_or_pos m
      · exact .inl rfl
      · by_cases hstay : p < m + w.size
        · rw [if_neg (by omega)]
          exact .inr (.inr (List.mem_cons_of_mem _ (List.mem_filter.2 ⟨hmark, by simpa using hstay⟩)))
        · exact .inr (.inl (by omega))
  · rw [Window.accept_of_le hle]
    obtain rfl | hlate | hmark := hm
    · exact .inl rfl
    · exact .inr (.inl hlate)
    · exact .inr (.inr (List.mem_cons_of_mem _ hmark))

theorem Window.not_mem_passes {w : Window} (h : w.marksBelow) {m : Nat} (hm : w.test m ≠ none) (ps : List Nat) : m ∉ w.passes ps := by
  induction ps generalizing w with
  | nil => exact List.not_mem_nil
  | cons p ps ih =>
    rw [Window.passes]
    split
    next hp =>
      have hne : m ≠ p := fun heq => hm (heq ▸ hp)
      have hrest := ih (Window.marksBelow_accept h p) (Window.refuses_accept h hm p)
      simp [hne, hrest]
    next => exact ih h hm

theorem Window.nodup_passes {w : Window} (h : w.marksBelow) (ps : List Nat) : (w.passes ps).Nodup := by
  induction ps generalizing w with
  | nil => exact List.nodup_nil
  | cons p ps ih =>
    rw [Window.passes]
    split
    next hp =>
      have hbelow := Window.marksBelow_accept h p
      exact List.nodup_cons.2 ⟨Window.not_mem_passes hbelow (Window.refuses_accepted hp) ps, ih hbelow⟩
    next => exact ih h

/-! ### The numbers a key assigns (R67) -/

theorem Key.assigns_of_not_inUse {k : Key} (h : k.state ≠ .inUse) (bs : List Nat) : k.assigns bs = [] := by
  cases bs with
  | nil => rfl
  | cons b bs => exact if_neg h

/-- R67: the numbers that a key assigns begin at its next one, rise, and end at the greatest. -/
theorem Key.assigns_rise {k : Key} (hn : k.n ≤ Config.pnMax) (bs : List Nat) :
    (k.assigns bs).Pairwise (· < ·) ∧ ∀ p ∈ k.assigns bs, k.n ≤ p ∧ p ≤ Config.pnMax := by
  induction bs generalizing k with
  | nil => exact ⟨List.Pairwise.nil, fun p hp => absurd hp List.not_mem_nil⟩
  | cons b bs ih =>
    rw [Key.assigns]
    split
    next =>
      by_cases hmax : k.n = Config.pnMax
      · rw [Key.assigns_of_not_inUse (by simp [Key.charge, hmax])]
        refine ⟨List.pairwise_singleton _ _, fun p hp => ?_⟩
        obtain rfl := List.mem_singleton.1 hp
        exact ⟨le_rfl, hn⟩
      · have hcharge : (k.charge b).n = k.n + 1 := by simp [Key.charge, hmax]
        obtain ⟨hpair, hrange⟩ := ih (k := k.charge b) (by rw [hcharge]; omega)
        refine ⟨List.pairwise_cons.2 ⟨fun p hp => ?_, hpair⟩, fun p hp => ?_⟩
        · have := (hrange p hp).1
          omega
        · obtain rfl | hp := List.mem_cons.1 hp
          · exact ⟨le_rfl, hn⟩
          · have := hrange p hp
            exact ⟨by omega, this.2⟩
    next => exact ⟨List.Pairwise.nil, fun p hp => absurd hp List.not_mem_nil⟩

/-! ### The flow table (R96 to R100) -/

/-- The chains do not depend on the count of free overflow entries. -/
@[simp] theorem FlowTable.chain_withFree (t : FlowTable) (f : Nat) (b : Fin 1024) : ({ t with free := f } : FlowTable).chain b = t.chain b := rfl

theorem FlowTable.chain_add (t : FlowTable) (e : FlowEntry) (b : Fin 1024) :
    (t.add e).chain b = if b = e.key.bucket then t.chain b ++ [e] else t.chain b := by
  rw [FlowTable.add, FlowTable.chain_withFree, FlowTable.chain_setChain]
  split
  next h => rw [h]
  next => rfl

theorem FlowTable.chain_remove (t : FlowTable) (k : FlowKey) (b : Fin 1024) :
    (t.remove k).chain b = if b = k.bucket then (t.chain b).filter (fun e => e.key != k) else t.chain b := by
  rw [FlowTable.remove, FlowTable.chain_withFree, FlowTable.chain_setChain]
  split
  next h => rw [h]
  next => rfl

theorem FlowTable.find_add_same {t : FlowTable} {e : FlowEntry} (h : t.find e.key = none) : (t.add e).find e.key = some e := by
  unfold FlowTable.find at h ⊢
  rw [FlowTable.chain_add, if_pos rfl, List.find?_append, h]
  simp

theorem FlowTable.find_add_ne (t : FlowTable) (e : FlowEntry) {k : FlowKey} (h : k ≠ e.key) : (t.add e).find k = t.find k := by
  unfold FlowTable.find
  rw [FlowTable.chain_add]
  split
  · rw [List.find?_append, List.find?_singleton]
    simp [Ne.symm h]
  · rfl

theorem FlowTable.find_remove_same (t : FlowTable) (k : FlowKey) : (t.remove k).find k = none := by
  unfold FlowTable.find
  rw [FlowTable.chain_remove, if_pos rfl, List.find?_eq_none]
  intro e he
  have := (List.mem_filter.1 he).2
  simp at this
  simp [this]

theorem FlowTable.find_remove_ne (t : FlowTable) {k k' : FlowKey} (h : k' ≠ k) : (t.remove k).find k' = t.find k' := by
  unfold FlowTable.find
  rw [FlowTable.chain_remove]
  split
  · rw [List.find?_filter]
    congr 1
    funext e
    by_cases he : e.key = k'
    · simp [he, h]
    · simp [he]
  · rfl

/-- R99, R100: an added entry that is removed again gives back the overflow entry it took. -/
theorem FlowTable.free_remove_add {t : FlowTable} {e : FlowEntry} (hroom : 1 ≤ t.free ∨ t.chain e.key.bucket = []) :
    ((t.add e).remove e.key).free = t.free := by
  have hlen : ((t.add e).chain e.key.bucket).length = (t.chain e.key.bucket).length + 1 := by simp [FlowTable.chain_add]
  have hfree : (t.add e).free = if (t.chain e.key.bucket).isEmpty then t.free else t.free - 1 := rfl
  change (if 1 < ((t.add e).chain e.key.bucket).length then (t.add e).free + 1 else (t.add e).free) = t.free
  rw [hlen, hfree]
  rcases hc : t.chain e.key.bucket with _ | ⟨x, rest⟩
  · simp
  · obtain h | h := hroom
    · simp
      omega
    · simp [hc] at h

end Sys2Proof.Machine
end

section
/-! Certificates: packet numbers and the flow table. -/

namespace Sys2Proof.Machine

/-- Settles O8: a number that a window refuses it refuses for ever, and one that passes is refused from then on. -/
theorem windowNeverRepeats : Obligations.WindowNeverRepeats := by
  intro w ps
  have hempty : (Window.empty w).marksBelow := fun _ h => absurd h List.not_mem_nil
  exact ⟨Window.nodup_passes hempty ps, Window.not_mem_passes hempty (by simp) ps⟩

/-- Settles O9. -/
theorem packetNumbersRise : Obligations.PacketNumbersRise := fun _ bs _ hn => Key.assigns_rise hn bs

/-- Settles O20: the chain of a bucket after an addition and after a removal, and what is found in it. -/
theorem flowTableFindsWhatIsAdded : Obligations.FlowTableFindsWhatIsAdded := by
  intro t e hnew
  refine ⟨FlowTable.find_add_same hnew, fun k => t.find_add_ne e, FlowTable.find_remove_same _ _, fun k => ?_, FlowTable.free_remove_add⟩
  by_cases hk : k = e.key
  · rw [hk, FlowTable.find_remove_same, hnew]
  · rw [FlowTable.find_remove_ne _ hk, t.find_add_ne e hk]

end Sys2Proof.Machine
end

section
/-! SUPPORT. How every command of a request begins (R164, R165, R167), and the frame of a reply. -/

namespace Sys2Proof.Machine

/-! ### The two ways in which a command executes a request -/

/-- R165: the conditional requests. -/
def conditionalRequests : List Instr := [.openAssoc, .setAssoc, .testAssoc, .installKey, .rollover, .retire]

/-- R164, R167: the command of a request of `code` that every device state executes or not, and that is conditional or not: it runs once,
or it is a repeat. -/
inductive RunsAs (i : Instr) (code : Byte) : Bool → Bool → Prop where
  | once (a c : Bool) (act : Request → State → State) : (∀ s, exec i s = .next (s.runOnce code a c act)) → RunsAs i code a c
  | items (k : Repeatable) : k.code = code → (∀ s, exec i s = .next (s.runRepeat k)) → RunsAs i code false k.conditional

/-- R165, Table 10-4: every command of a request, with the general checks it makes. -/
theorem runsAs_of_requestCode {i : Instr} {code : Byte} (h : requestCode i = some code) :
    ∃ a c, RunsAs i code a c ∧ (a = true ↔ i = .identify ∨ i = .deviceStatus) ∧ (c = true ↔ i ∈ conditionalRequests) := by
  cases i
  case identify | deviceStatus =>
    cases h
    exact ⟨true, false, .once true false _ fun _ => rfl, by simp, by simp [conditionalRequests]⟩
  case softReset | zeroize | setLinkMode | setLinkParams | addFlow | removeFlow | purge | purgeSuspend | purgeResume | purgeCancel
      | storeStatus | provisionWrite | provisionLock | provisionRead =>
    cases h
    exact ⟨false, false, .once false false _ fun _ => rfl, by simp, by simp [conditionalRequests]⟩
  case openAssoc | installKey | rollover =>
    cases h
    exact ⟨false, true, .once false true _ fun _ => rfl, by simp, by simp [conditionalRequests]⟩
  case readLink => cases h; exact ⟨false, false, .items readLink rfl fun _ => rfl, by simp, by simp [conditionalRequests]⟩
  case readCounters => cases h; exact ⟨false, false, .items readCounters rfl fun _ => rfl, by simp, by simp [conditionalRequests]⟩
  case setRangeRule => cases h; exact ⟨false, false, .items setRangeRule rfl fun _ => rfl, by simp, by simp [conditionalRequests]⟩
  case readFlow => cases h; exact ⟨false, false, .items readFlow rfl fun _ => rfl, by simp, by simp [conditionalRequests]⟩
  case setAssoc =>
    cases h
    exact ⟨false, true, .items (recordRepeat 0x31 true 23 1 State.setAssocItem) rfl fun _ => rfl, by simp, by simp [conditionalRequests]⟩
  case readAssoc =>
    cases h
    exact ⟨false, false, .items (recordRepeat 0x32 false 2 128 State.readAssocItem) rfl fun _ => rfl, by simp, by simp [conditionalRequests]⟩
  case testAssoc =>
    cases h
    exact ⟨false, true, .items (recordRepeat 0x33 true 2 4 State.testAssocItem) rfl fun _ => rfl, by simp, by simp [conditionalRequests]⟩
  case retire =>
    cases h
    exact ⟨false, true, .items (recordRepeat 0x36 true 2 1 State.retireItem) rfl fun _ => rfl, by simp, by simp [conditionalRequests]⟩
  case release =>
    cases h
    exact ⟨false, false, .items (recordRepeat 0x37 false 2 1 State.releaseItem) rfl fun _ => rfl, by simp, by simp [conditionalRequests]⟩
  all_goals cases h

/-- R165: a request of one defined body length checks it before all that is its own. -/
theorem withBody_of_bodyLength {i : Instr} {code : Byte} {len : Nat} (h : requestCode i = some code) (hl : bodyLengthOf i = some len) :
    ∃ (a c : Bool) (act : Request → State → State), (∀ s, exec i s = .next (s.runOnce code a c fun q s => s.withBody q len (act q s)))
      ∧ (i = .identify ∨ i = .deviceStatus → a = true) ∧ (i = .openAssoc ∨ i = .rollover → c = true) := by
  cases i
  case identify | deviceStatus =>
    cases h
    cases hl
    exact ⟨true, false, _, fun _ => rfl, by simp, by simp⟩
  case softReset | zeroize | setLinkMode | setLinkParams | addFlow | removeFlow | purge | purgeSuspend | purgeResume | purgeCancel
      | storeStatus | provisionWrite | provisionLock | provisionRead =>
    cases h
    cases hl
    exact ⟨false, false, _, fun _ => rfl, by simp, by simp⟩
  case openAssoc | rollover =>
    cases h
    cases hl
    exact ⟨false, true, _, fun _ => rfl, by simp, by simp⟩
  all_goals cases hl

/-! ### Requests that do not begin (R164) -/

theorem State.beginRequest_of_not_ready {s : State} (h : s.ready? = none) (code : Byte) (a c : Bool) : s.beginRequest code a c = none := by
  simp [State.beginRequest, h]

theorem State.runOnce_of_not_ready {s : State} (h : s.ready? = none) (code : Byte) (a c : Bool) (act : Request → State → State) :
    s.runOnce code a c act = s := by
  simp [State.runOnce, State.beginRequest_of_not_ready h]

/-- R167: a repeat does nothing while no request can begin and none of its items waits. -/
theorem State.runRepeat_of_not_ready {s : State} (h : s.ready? = none) (k : Repeatable)
    (hitems : ∀ i left done fl data q rest, s.control.exec = .items i left done fl data → s.control.requests = q :: rest → q.code ≠ k.code) :
    s.runRepeat k = s := by
  unfold State.runRepeat
  split
  next i left done fl data q rest hexec hreq => exact if_neg (hitems i left done fl data q rest hexec hreq)
  next => simp [State.beginRequest_of_not_ready h]

theorem State.not_ready_of_not_idle {s : State} (h : s.control.exec ≠ .idle) : s.ready? = none := by
  unfold State.ready?
  split
  · simp [Control.free, h]
  · rfl

theorem State.not_ready_of_executed {s : State} (h : ∃ r ∈ s.control.replies, r.executed = true) : s.ready? = none := by
  obtain ⟨r, hr, hx⟩ := h
  have hall : (s.control.replies.all fun r => !r.executed) = false := List.all_eq_false.2 ⟨r, hr, by simp [hx]⟩
  unfold State.ready?
  split
  · simp [Control.free, hall]
  · rfl

/-! ### Requests that are refused, and requests that reply -/

/-- R165: what the general checks refuse. -/
theorem RunsAs.refused {i : Instr} {code : Byte} {a c : Bool} (h : RunsAs i code a c) {s : State} {q : Request} {rest : List Request}
    {why : Status} (hb : s.canBegin q rest) (hc : q.code = code) (hw : generalCheck s.device.state a c q = some why) :
    exec i s = .next (s.withControl (s.control.answer why Flags.none 0 []).pump) := by
  cases h with
  | once _ _ act he =>
    rw [he, State.runOnce, beginRequest_of_canBegin hb hc, hw]
    rfl
  | items k hk he =>
    rw [he, runRepeat_of_refused hb ((beginRequest_of_canBegin hb (hk ▸ hc) _ _).trans (by rw [hw]))]
    rfl

/-- R165: a request whose body has its length answers once. -/
theorem runOnce_of_answer {s u : State} {q : Request} {rest : List Request} {code : Byte} {len : Nat} {act : Request → State → State}
    {st : Status} {fl : Flags} {body : Bytes} (h : s.asks q rest code) (hlen : q.body.length = len)
    (hact : act q s = u.answerOnce st fl body) (hu : u.control = s.control) (a c : Bool) :
    s.runOnce code a c (fun q s => s.withBody q len (act q s)) = u.withControl (s.control.replied q st fl body) := by
  have ⟨⟨hreq, _⟩, _⟩ := h
  rw [runOnce_of_asks h, withBody_of_length hlen, hact, answerOnce_pump (hu ▸ hreq), hu]

/-- R164: with nothing sent and no request executed, a reply that is composed keeps the state but for the control unit. -/
theorem runOnce_of_self {s : State} {q : Request} {rest : List Request} {code : Byte} {len : Nat} {act : Request → State → State}
    {st : Status} {fl : Flags} {body : Bytes} (h : s.asks q rest code) (hlen : q.body.length = len)
    (hact : act q s = s.answerOnce st fl body) (a c : Bool) :
    s.runOnce code a c (fun q s => s.withBody q len (act q s)) = s.withControl (s.control.replied q st fl body) :=
  runOnce_of_answer h hlen hact rfl a c

/-! ### The reports of the whole part (R118, R172, R173) -/

/-- R172: a request of every device state with an empty body. -/
theorem runOnce_of_any_answer {s u : State} {q : Request} {rest : List Request} {code : Byte} {act : Request → State → State}
    {st : Status} {fl : Flags} {body : Bytes} (h : s.canBegin q rest) (hc : q.code = code) (h0 : q.cond = 0) (hbody : q.body = [])
    (hact : act q s = u.answerOnce st fl body) (hu : u.control.requests = s.control.requests) (c : Bool) :
    s.runOnce code true c (fun q s => s.withBody q 0 (act q s)) = u.withControl (u.control.replied q st fl body) := by
  have ⟨hreq, _⟩ := h
  rw [runOnce_of_any h hc h0, withBody_of_length (by rw [hbody]; rfl), hact, answerOnce_pump (hu ▸ hreq)]

/-- R118: the health map of lanes as a sum of powers of two, one for each lane in service. -/
theorem laneHealth_eq (v : Vector Lane 8) : laneHealth v
    = (if v[0] = .failed then 0 else 1) + (if v[1] = .failed then 0 else 2) + (if v[2] = .failed then 0 else 4)
      + (if v[3] = .failed then 0 else 8) + (if v[4] = .failed then 0 else 16) + (if v[5] = .failed then 0 else 32)
      + (if v[6] = .failed then 0 else 64) + (if v[7] = .failed then 0 else 128) := by
  have hstep : ∀ (acc k : Nat) (l : Lane), (if l = .failed then acc else acc + k) = acc + if l = .failed then 0 else k := by
    intro acc k l
    split <;> rfl
  simp [laneHealth, List.finRange_succ, hstep]

/-- The bits of a byte that is written as eight chosen powers of two. -/
theorem getLsbD_ofBits (b0 b1 b2 b3 b4 b5 b6 b7 : Bool) (i : Fin 8) :
    (BitVec.ofNat 8 ((if b0 then 0 else 1) + (if b1 then 0 else 2) + (if b2 then 0 else 4) + (if b3 then 0 else 8)
      + (if b4 then 0 else 16) + (if b5 then 0 else 32) + (if b6 then 0 else 64) + if b7 then 0 else 128)).getLsbD i.val
      = !(#v[b0, b1, b2, b3, b4, b5, b6, b7])[i] := by
  revert b0 b1 b2 b3 b4 b5 b6 b7 i
  decide

/-- R118, R172: bit `l` of the health map is set when lane `l` is not FAILED. -/
theorem laneHealth_bit (s : State) (l : LaneId) : (BitVec.ofNat 8 (laneHealth s.lanes) : Byte).getLsbD l.val = true ↔ s.lane l ≠ .failed := by
  have hbits := getLsbD_ofBits (decide (s.lanes[0] = .failed)) (decide (s.lanes[1] = .failed)) (decide (s.lanes[2] = .failed))
    (decide (s.lanes[3] = .failed)) (decide (s.lanes[4] = .failed)) (decide (s.lanes[5] = .failed)) (decide (s.lanes[6] = .failed))
    (decide (s.lanes[7] = .failed)) l
  simp only [decide_eq_true_eq] at hbits
  rw [laneHealth_eq, hbits]
  match l with
  | 0 | 1 | 2 | 3 | 4 | 5 | 6 | 7 => simp [State.lane]

theorem State.identity_eq (s : State) : s.identity
    = [0x0D, 0x4A, 0x44, 0x10, s.prov.revision] ++ s.prov.serial ++ [0]
      ++ [1, 2, 0, 28, 8, BitVec.ofNat 8 (laneHealth s.lanes)]
      ++ [2, 7, 0, 39, 8, 0, 4, 2, 0, 3, 0]
      ++ [3, 6, 0, 49, 4, 0, 12, 0, 8, 32]
      ++ [4, 8, 0, 61, 0, 0, 0, 16, 0, 64, 1, 0]
      ++ [5, 14, 0, 79, 0, 64, 5, 238, 36, 0, 5, 238, 37, 128, 0, 64, 5, 238]
      ++ [6, 12, 0, 0, 0, 128, 0, 32, 8, 0, 0, 128, 0, 8, 0, 32] := by
  simp [State.identity, capabilityChain, capabilities, u8, u16, beBytes]

end Sys2Proof.Machine
end

section
/-! Certificates: what every request obeys, and the requests on the whole part. -/

namespace Sys2Proof.Machine

/-- Settles O10: each command runs once or as a repeat, and the outcome of its general checks decides; then the body length. -/
theorem generalChecksRefuse : Obligations.GeneralChecksRefuse := by
  unfold Obligations.GeneralChecksRefuse
  refine ⟨fun i code s q rest hi hid hds hb hc hstate => ?notRunning, fun i code s q rest hi hb hc hstate hcond => ?condition,
    fun s q rest hb => ?unknown, fun i code len s q rest hi hl hb hc hstate hcond hlen => ?length⟩
  case notRunning =>
    obtain ⟨a, c, hruns, ha, -⟩ := runsAs_of_requestCode hi
    have hfalse : a = false := by simpa [hid, hds] using ha
    exact hruns.refused hb hc (by simp [generalCheck, hfalse, hstate])
  case condition =>
    obtain ⟨a, c, hruns, -, hcs⟩ := runsAs_of_requestCode hi
    refine ⟨fun hnot => ?_, fun hin h7 => ?_⟩
    · have hfalse : c = false := by simpa using fun h => hnot (hcs.1 h)
      exact hruns.refused hb hc (by rw [generalCheck, if_neg (fun h => h.2 hstate), if_pos ⟨hcond, hfalse⟩])
    · exact hruns.refused hb hc (by simp [generalCheck, hcs.2 hin, hstate, h7])
  case unknown =>
    have hexec : exec .unknownRequest s
        = .next (if q.code ∈ requestCodes then s else (s.refuse .unknownRequest).pump) := by
      change execUnknownRequest s = _
      rw [execUnknownRequest, ready_of_canBegin hb]
    refine ⟨fun hnot => ?_, fun hin => ?_⟩
    · rw [hexec, if_neg hnot]
      rfl
    · rw [hexec, if_pos hin]
  case length =>
    obtain ⟨a, c, act, hexec, ha, hcs⟩ := withBody_of_bodyLength hi hl
    have hpass : generalCheck s.device.state a c q = none := by
      have h1 : ¬ (a = false ∧ s.device.state ≠ .running) := by
        rintro ⟨hfalse, hnot⟩
        obtain hrun | hany := hstate
        · exact hnot hrun
        · simp [ha hany] at hfalse
      have h2 : ¬ (q.cond ≠ 0 ∧ c = false) := by
        rintro ⟨hne, hfalse⟩
        obtain h0 | ⟨hany, -⟩ := hcond
        · exact hne h0
        · simp [hcs hany] at hfalse
      have h3 : ¬ 7 < q.cond.toNat := by
        obtain h0 | ⟨-, hle⟩ := hcond
        · simp [h0]
        · exact Nat.not_lt.2 hle
      rw [generalCheck, if_neg h1, if_neg h2, if_neg h3]
    have ⟨hreq, _⟩ := hb
    rw [hexec, State.runOnce, beginRequest_of_canBegin hb hc, hpass]
    simp only [State.withBody, if_neg hlen]
    rw [answerOnce_pump hreq]

/-- Settles O11: no request can begin, and no item of this request waits. -/
theorem requestsWaitTheirTurn : Obligations.RequestsWaitTheirTurn := by
  intro i code s hi hwait
  have hready : s.ready? = none := by
    obtain ⟨-, h⟩ | h | h | h | ⟨_, _, _, _, _, h, -⟩ := hwait
    · exact State.not_ready_of_executed h
    all_goals exact State.not_ready_of_not_idle (by simp [h])
  have hitems : ∀ j left done fl data q rest, s.control.exec = .items j left done fl data → s.control.requests = q :: rest →
      q.code ≠ code := by
    intro j left done fl data q rest hexec hreq
    obtain ⟨h, -⟩ | h | h | h | ⟨_, _, _, _, _, -, h⟩ := hwait
    case inr.inr.inr.inr => exact h q rest hreq
    all_goals simp [h] at hexec
  constructor
  · obtain ⟨a, c, hruns, -⟩ := runsAs_of_requestCode hi
    cases hruns with
    | once _ _ act he => rw [he, State.runOnce_of_not_ready hready]
    | items k hk he => rw [he, State.runRepeat_of_not_ready hready k (hk ▸ hitems)]
  · change execUnknownRequest s = _
    rw [execUnknownRequest, hready]

/-- Settles O12. -/
theorem partDescribesItself : Obligations.PartDescribesItself := by
  unfold Obligations.PartDescribesItself
  refine ⟨fun s q rest hb hc h0 hbody => ⟨?_, laneHealth_bit s⟩, fun s q rest hb hc h0 hbody => ?_⟩
  · rw [← State.identity_eq]
    exact congrArg Host.Outcome.next (runOnce_of_any_answer hb hc h0 hbody (act := fun _ s => s.answerOnce .ok Flags.none s.identity) rfl rfl false)
  · refine (congrArg Host.Outcome.next (runOnce_of_any_answer hb hc h0 hbody
      (act := fun _ s => s.clearLost.answerOnce .ok Flags.none s.deviceReport) rfl rfl false)).trans ?_
    simp [State.clearLost, State.deviceReport, List.finRange_succ, State.port, Link.port]

end Sys2Proof.Machine
end

section
/-! SUPPORT. Zeroization, the resets, start-up and the provisioning area, as what their commands compute (R174 to R183). -/

namespace Sys2Proof.Machine

/-! ### Zeroization (R180, R181) -/

/-- R181: the ZEROIZED notice of a zeroization. -/
def State.zeroizedNotice (s : State) (src : ZeroizeSource) : Notice :=
  .zeroized src (min 65535 (s.device.zeroizeCount + 1)) (s.bank.install.map Install.index) s.bank.purge

/-- R180, R181: what a zeroization leaves of the state, with the count and its notice. -/
theorem State.zeroizeFrom_eq_notify (s : State) (src : ZeroizeSource) : s.zeroizeFrom src
    = (s.zeroizeAll.withDevice { s.device with zeroizeCount := min 65535 (s.device.zeroizeCount + 1) }).withControl
        (s.control.notify (s.zeroizedNotice src)) := by
  have hd := s.device_zeroizeAll
  have hc := s.control_zeroizeAll
  unfold State.zeroizeFrom State.countZeroize State.zeroizedNotice
  generalize s.zeroizeAll = z at hd hc
  rw [← hd, ← hc]
  rfl

/-- R41, R42, R180: what a zeroization leaves, whatever the control unit does after it. -/
theorem State.zeroized_withControl (s : State) (c : Control) {t : State}
    (ht : t = (s.zeroizeAll.withDevice { s.device with zeroizeCount := min 65535 (s.device.zeroizeCount + 1) }).withControl c) :
    s.zeroizedTo t ∧ t.device = { s.device with zeroizeCount := min 65535 (s.device.zeroizeCount + 1) }
      ∧ t.bank.lastPurge = (if s.bank.purge.isSome then .zeroized else s.bank.lastPurge)
      ∧ t.bank.lastInstall = (match s.bank.install with | some i => some (.badState, i.index) | none => s.bank.lastInstall)
      ∧ t.control = c := by
  subst ht
  have hz := s.zeroizedTo_zeroizeAll
  have hb := s.bank_zeroizeAll
  generalize s.zeroizeAll = z at hz hb
  refine ⟨hz, rfl, ?_, ?_, rfl⟩
  · change z.bank.lastPurge = _
    rw [hb]
    rfl
  · change z.bank.lastInstall = _
    rw [hb]
    rfl

/-- R34, R51, R61, R167: what a zeroization by the input makes of the control unit. -/
def Control.cut (c : Control) : Control :=
  match c.exec with
  | .installing => c.answer .badState { Flags.none with repeatIgnored := c.repeatAsked } 0 []
  | .awaitingBoundary => c.answer .badState { Flags.none with repeatIgnored := c.repeatAsked } 0 []
  | .items _ _ done flags data => c.answer .ok { flags with clamped := true } (done % 256) data
  | .idle => c
  | .programming => c

theorem State.answerCut_withControl (s : State) (c : Control) : (s.withControl c).answerCut = s.withControl c.cut := by
  rcases h : c.exec with _ | _ | _ | _ | _ <;> simp [State.answerCut, Control.cut, h, State.answerOnce, State.answer]

theorem exec_zeroizeInput {s : State} (hr : s.resetAsserted = false) : exec .zeroizeInput s
    = .next ((s.zeroizeAll.withDevice { s.device with zeroizeCount := min 65535 (s.device.zeroizeCount + 1) }).withControl
        (s.control.notify (s.zeroizedNotice .input)).cut.pump) := by
  change execZeroizeInput s = _
  rw [execZeroizeInput, if_neg (by simp [hr]), State.zeroizeFrom_eq_notify, State.answerCut_withControl]
  generalize s.zeroizeAll = z
  rfl

/-! ### Soft reset (R182) -/

theorem FlowTable.chain_clearHits (t : FlowTable) (b : Fin 1024) : t.clearHits.chain b = (t.chain b).map fun e => { e with hits := 0 } := by
  simp [FlowTable.clearHits, FlowTable.chain]

/-- R142, R144, R182: queues, buffers and ports after a soft reset. -/
theorem State.trafficCleared_softResetAll (s : State) : s.trafficCleared s.softResetAll := by
  refine State.trafficCleared_of_links fun n => ?_
  rw [State.link_softResetAll]
  refine ⟨rfl, rfl, fun d => ?_⟩
  cases d <;> exact ⟨rfl, rfl, rfl, rfl, rfl⟩

/-! ### The self-test (R138, R175) -/

/-- R138, R175: what a port that is raised or not leaves of a state. -/
structure State.Raised (s t : State) (ports : List (Side × LinkId)) : Prop where
  core : t.lanes = s.lanes ∧ t.records = s.records ∧ t.bank = s.bank ∧ t.rules = s.rules ∧ t.flow = s.flow ∧ t.lastGrant = s.lastGrant
    ∧ t.prov = s.prov ∧ t.now = s.now ∧ t.device = s.device
  signal : ∀ side n, (t.port side n).signal = (s.port side n).signal
  up : ∀ side n, (t.port side n).up = ((s.port side n).up || (decide ((side, n) ∈ ports) && (s.port side n).signal))
  path : ∀ d n, (t.path d n).queue = (s.path d n).queue ∧ (t.path d n).free = (s.path d n).free
  control : t.control
    = ((ports.filter fun p => (s.port p.1 p.2).signal).map fun p => Notice.portUp p.2 p.1).foldl Control.notify s.control

theorem State.Raised.none (s : State) : s.Raised s [] :=
  ⟨⟨rfl, rfl, rfl, rfl, rfl, rfl, rfl, rfl, rfl⟩, fun _ _ => rfl, fun _ _ => by simp, fun _ _ => ⟨rfl, rfl⟩, rfl⟩

theorem State.Raised.trans {s t u : State} {ps qs : List (Side × LinkId)} (h : s.Raised t ps) (h' : t.Raised u qs) : s.Raised u (ps ++ qs) := by
  obtain ⟨⟨h1, h2, h3, h4, h5, h6, h7, h8, h9⟩, hs, hu, hp, hc⟩ := h
  obtain ⟨⟨g1, g2, g3, g4, g5, g6, g7, g8, g9⟩, gs, gu, gp, gc⟩ := h'
  refine ⟨⟨g1.trans h1, g2.trans h2, g3.trans h3, g4.trans h4, g5.trans h5, g6.trans h6, g7.trans h7, g8.trans h8, g9.trans h9⟩,
    fun side n => (gs side n).trans (hs side n), fun side n => ?_,
    fun d n => ⟨(gp d n).1.trans (hp d n).1, (gp d n).2.trans (hp d n).2⟩, ?_⟩
  · rw [gu, hu, hs]
    simp only [List.mem_append, Bool.decide_or, Bool.and_or_distrib_right, Bool.or_assoc]
  · rw [gc, hc, List.filter_append, List.map_append, List.foldl_append]
    simp only [hs]

/-- R145: a resend interval that restarts changes nothing of a port, and nothing of a path but its deadline. -/
theorem State.restartResend_frame (s : State) (d : Dir) (n : LinkId) : s.sameCore (s.restartResend d n)
    ∧ (∀ side m, (s.restartResend d n).port side m = s.port side m)
    ∧ ∀ d' m, ((s.restartResend d n).path d' m).queue = (s.path d' m).queue ∧ ((s.restartResend d n).path d' m).free = (s.path d' m).free := by
  unfold State.restartResend
  dsimp only
  split
  · refine ⟨⟨rfl, rfl, rfl, rfl, rfl, rfl, rfl, rfl, rfl, rfl, rfl⟩, fun side m => s.port_setPath side n m _ d, fun d' m => ?_⟩
    by_cases hdm : (d', m) = (d, n)
    · obtain ⟨rfl, rfl⟩ := Prod.mk.inj hdm
      rw [State.path_setPath_same]
      exact ⟨rfl, rfl⟩
    · rw [State.path_setPath_ne _ _ hdm]
      exact ⟨rfl, rfl⟩
  · exact ⟨⟨rfl, rfl, rfl, rfl, rfl, rfl, rfl, rfl, rfl, rfl, rfl⟩, fun _ _ => rfl, fun _ _ => ⟨rfl, rfl⟩⟩

/-- R138: a port that becomes UP: its state, its notice, and at most the resend interval of the buffer that it feeds. -/
theorem State.portUp_frame (s : State) (side : Side) (n : LinkId) : ∃ (p : Port) (u : State), p.up = true
    ∧ p.signal = (s.port side n).signal ∧ (u = s.setPort side n p ∨ u = (s.setPort side n p).restartResend (fedDir side) n)
    ∧ s.portUp side n = u.notify (.portUp n side) := by
  unfold State.portUp
  dsimp only
  split
  · exact ⟨{ s.port side n with up := true, lineOut := pauseFrame (s.pauseQuanta (fedDir side) n .stop) }, _, rfl, rfl, .inr rfl, rfl⟩
  · exact ⟨{ s.port side n with up := true }, _, rfl, rfl, .inl rfl, rfl⟩

theorem State.raised_portUp {s : State} {side : Side} {n : LinkId} (h : (s.port side n).signal = true) :
    s.Raised (s.portUp side n) [(side, n)] := by
  obtain ⟨p, u, hup, hsignal, hu, ht⟩ := s.portUp_frame side n
  have hcore : (s.setPort side n p).sameCore u := by
    obtain rfl | rfl := hu
    · exact ⟨rfl, rfl, rfl, rfl, rfl, rfl, rfl, rfl, rfl, rfl, rfl⟩
    · exact (State.restartResend_frame _ _ _).1
  have hport : ∀ a m, u.port a m = (s.setPort side n p).port a m := by
    obtain rfl | rfl := hu
    · exact fun _ _ => rfl
    · exact (State.restartResend_frame _ _ _).2.1
  have hpath : ∀ d m, (u.path d m).queue = (s.path d m).queue ∧ (u.path d m).free = (s.path d m).free := by
    intro d m
    rw [← State.path_setPort s side n m p d]
    obtain rfl | rfl := hu
    · exact ⟨rfl, rfl⟩
    · exact (State.restartResend_frame _ _ _).2.2 d m
  obtain ⟨h1, h2, h3, h4, h5, h6, h7, h8, h9, h10, -⟩ := hcore
  rw [ht]
  refine ⟨⟨h5, h1, h2, h3, h4, h6, h8, h10, h7⟩, fun a m => ?_, fun a m => ?_, hpath, ?_⟩
  · change (u.port a m).signal = _
    rw [hport]
    by_cases ham : (a, m) = (side, n)
    · obtain ⟨rfl, rfl⟩ := Prod.mk.inj ham
      rw [State.port_setPort_same, hsignal]
    · rw [State.port_setPort_ne _ _ ham]
  · change (u.port a m).up = _
    rw [hport]
    by_cases ham : (a, m) = (side, n)
    · obtain ⟨rfl, rfl⟩ := Prod.mk.inj ham
      simp [hup, h]
    · rw [State.port_setPort_ne _ _ ham]
      simp [ham]
  · change u.control.notify _ = _
    rw [h9]
    simp [h]

theorem State.raised_raisePort (s : State) (side : Side) (n : LinkId) : s.Raised (s.raisePort side n) [(side, n)] := by
  unfold State.raisePort
  split
  next h => exact State.raised_portUp h
  next h =>
    refine ⟨⟨rfl, rfl, rfl, rfl, rfl, rfl, rfl, rfl, rfl⟩, fun _ _ => rfl, fun a m => ?_, fun _ _ => ⟨rfl, rfl⟩, by simp [h]⟩
    by_cases ham : (a, m) = (side, n)
    · obtain ⟨rfl, rfl⟩ := Prod.mk.inj ham
      simp [h]
    · simp [ham]

/-- R138, R175: the ports of one side, in order. -/
theorem State.raised_foldl (side : Side) (ns : List LinkId) (s : State) :
    s.Raised (ns.foldl (fun s n => s.raisePort side n) s) (ns.map fun n => (side, n)) := by
  induction ns generalizing s with
  | nil => exact .none s
  | cons n ns ih => exact (s.raised_raisePort side n).trans (ih _)

/-- R138, R175: the rack ports, then the campus ports. -/
theorem State.raised_raisePorts (s : State) : s.Raised s.raisePorts
    (((List.finRange 4).map fun n => (Side.rack, n)) ++ (List.finRange 4).map fun n => (Side.campus, n)) :=
  (State.raised_foldl .rack (List.finRange 4) s).trans (State.raised_foldl .campus (List.finRange 4) _)

theorem testedLanes_get (passed : BitVec 8) (l : LaneId) : (testedLanes passed)[l] = if passed.getLsbD l.val then .idle else .failed := by
  simp [testedLanes]

end Sys2Proof.Machine
end

section
/-! Certificates: zeroization and the resets. -/

namespace Sys2Proof.Machine

/-- Settles O14: the zeroization by request and by the input leave the same state but for the control unit. -/
theorem zeroizationDestroysKeys : Obligations.ZeroizationDestroysKeys := by
  unfold Obligations.ZeroizationDestroysKeys
  refine ⟨fun s q rest h hbody => ?request, fun s => ⟨fun hreset => ?reset, fun hreset hwaits => ?input⟩⟩
  case request =>
    have ⟨⟨hreq, _⟩, _⟩ := h
    have hexec : exec .zeroize s = .next (s.zeroizeByRequest.pump) := by
      refine congrArg Host.Outcome.next ((runOnce_of_asks h false false _).trans ?_)
      rw [withBody_of_length (by rw [hbody]; rfl)]
    have hcontrol : s.zeroizeByRequest.pump
        = (s.zeroizeAll.withDevice { s.device with zeroizeCount := min 65535 (s.device.zeroizeCount + 1) }).withControl
            ((s.control.notify (s.zeroizedNotice .request)).replied q .ok Flags.none (u16 (min 65535 (s.device.zeroizeCount + 1)))) := by
      have hreq' := (s.control.quiet_notify (s.zeroizedNotice .request)).requests.trans hreq
      rw [State.zeroizeByRequest, State.zeroizeFrom_eq_notify]
      generalize s.zeroizeAll = z
      exact answerOnce_pump hreq' _ _ _
    exact ⟨_, hexec.trans (congrArg _ hcontrol), s.zeroized_withControl _ rfl⟩
  case reset =>
    have hr : s.resetAsserted = true := by simpa [State.resetAsserted] using hreset
    change execZeroizeInput s = _
    rw [execZeroizeInput, if_pos hr]
  case input =>
    have hr : s.resetAsserted = false := by simp [State.resetAsserted, hreset, hwaits]
    obtain ⟨hz, hdevice, hpurge, hinstall, hcontrol⟩ :=
      s.zeroized_withControl (s.control.notify (s.zeroizedNotice .input)).cut.pump rfl
    refine ⟨_, exec_zeroizeInput hr, hz, hdevice, hpurge, hinstall, ?_⟩
    rintro c rfl
    rw [hcontrol]
    have hquiet := s.control.quiet_notify (s.zeroizedNotice .input)
    refine ⟨fun hexec => ?_, fun q rest hreq => ⟨fun hexec => ?_, fun i left done fl data hexec => ?_⟩⟩
    · obtain hexec | hexec := hexec <;> rw [Control.cut, hquiet.exec, hexec] <;> rfl
    · have hasked : (s.control.notify (s.zeroizedNotice .input)).repeatAsked = (q.repeatCount != 0) := by
        rw [Control.repeatAsked, hquiet.requests, hreq]
      obtain hexec | hexec := hexec <;> rw [Control.cut, hquiet.exec, hexec] <;> simp only [hasked] <;> rfl
    · rw [Control.cut, hquiet.exec, hexec]
      rfl

/-- Settles O15. -/
theorem softResetClears : Obligations.SoftResetClears := by
  intro s q rest h hbody
  have ⟨⟨hreq, _⟩, _⟩ := h
  have hsoft : s.softResetAll.control
      = { s.control with requests := [q], replies := [], notices := [], noticesLost := false, repliesLost := false } := by
    rw [State.softResetAll_eq]
    simp [Control.softReset, hreq]
  have hexec : exec .softReset s = .next (s.softResetAll.withControl (({ s.control with
      requests := [q], replies := [], notices := [], noticesLost := false, repliesLost := false } : Control).replied q .ok Flags.none [])) := by
    refine congrArg Host.Outcome.next ((runOnce_of_asks h false false _).trans ?_)
    rw [withBody_of_length (by rw [hbody]; rfl), answerOnce_pump (q := q) (rest := []) (by rw [hsoft]), hsoft]
  refine ⟨_, hexec, ?_⟩
  have hrecord := s.record_softResetAll
  have hlane := s.lane_softResetAll
  have htraffic := s.trafficCleared_softResetAll
  have hlink := s.link_softResetAll
  have heq := s.softResetAll_eq
  generalize s.softResetAll = z at *
  refine ⟨hrecord, hlane, by rw [heq]; rfl, htraffic, fun d n => ?_, fun n => ?_, by rw [heq]; rfl, by rw [heq]; rfl, by rw [heq]; rfl,
    by rw [heq]; rfl, by rw [heq]; rfl, by rw [heq]; rfl, by rw [heq]; rfl, fun b => ?_, rfl⟩
  · change ((z.link n).path d).counters = _
    rw [hlink]
    cases d <;> rfl
  · change (z.link n).mode = _ ∧ (z.link n).cover = _ ∧ (z.link n).params = _
    rw [hlink]
    exact ⟨rfl, rfl, rfl⟩
  · rw [heq]
    exact s.flow.chain_clearHits b

/-- Settles O41: RESET and power-on are hard resets, and no other event makes a FAILED device anything else. -/
theorem resetsAndStartUp : Obligations.ResetsAndStartUp := by
  refine ⟨fun s => ⟨fun hp => ?now, fun hp => ?waits⟩, fun s ctrlRate wrapOnly => ⟨fun hs => ?start, fun hs => ?idle, ?power⟩,
    fun i s t hs hw h => ?failed⟩
  case now =>
    refine ⟨_, rfl, ?_⟩
    rw [State.assertReset, if_neg (by simp [hp])]
    exact ⟨s.hardResetTo_hardResetNow, rfl, rfl, rfl, rfl⟩
  case waits =>
    change execHardReset s = _
    rw [execHardReset, State.assertReset, if_pos (by rwa [Option.isSome_iff_ne_none])]
  case start => exact congrArg Host.Outcome.next (if_pos hs)
  case idle => exact congrArg Host.Outcome.next (if_neg hs)
  case power =>
    refine ⟨_, rfl, State.hardResetTo.of_links (t := s.withProv s.prov.finish) rfl, rfl, rfl, rfl, fun hp => ?_⟩
    have hf : s.prov.finish = s.prov := by simp [Provisioning.finish, hp]
    exact hf
  case failed =>
    obtain he | ⟨hi, -⟩ | hpower := exec_cases h
    · exact .inl (he.steady.failed hs (.inl hw))
    · exact .inr (.inl hi)
    · obtain ⟨c, w, hi, -⟩ := hpower
      exact .inr (.inr ⟨c, w, hi⟩)

/-- Settles O42: the lanes, the device state and the STARTED-UP notice are written, then the ports are raised in order. -/
theorem selfTestEndsStartUp : Obligations.SelfTestEndsStartUp := by
  intro s passed unwrap
  refine ⟨fun hs => congrArg Host.Outcome.next (if_neg hs), fun hs => ?_⟩
  have hexec : exec (.selfTestComplete passed unwrap) s = .next (s.endSelfTest passed unwrap).pump := congrArg Host.Outcome.next (if_pos hs)
  refine ⟨_, hexec, ?_⟩
  by_cases hpass : passed ≠ 0 ∧ unwrap = true
  · obtain ⟨hne, hunwrap⟩ := hpass
    have heq : s.endSelfTest passed unwrap = (((s.withLanes (testedLanes passed)).withDevice { s.device with state := .running }).notify
        (.startedUp .running passed unwrap)).raisePorts := by
      simp only [State.endSelfTest, if_pos (And.intro hne hunwrap)]
      rfl
    obtain ⟨⟨h1, h2, h3, h4, h5, h6, h7, h8, h9⟩, -, hup, hpath, hcontrol⟩ := State.raised_raisePorts
      (((s.withLanes (testedLanes passed)).withDevice { s.device with state := .running }).notify (.startedUp .running passed unwrap))
    rw [heq]
    clear heq hexec
    generalize (((s.withLanes (testedLanes passed)).withDevice { s.device with state := .running }).notify
      (.startedUp .running passed unwrap)).raisePorts = z at *
    refine ⟨fun l => ?_, h2, h3, h4, h5, h6, h7, h8, fun hfail => ?_, fun _ _ => ⟨h9, fun side n => ?_, hpath, ?_⟩⟩
    · rw [← testedLanes_get]
      change z.lanes[l] = _
      rw [h1]
      rfl
    · obtain hzero | hfalse := hfail
      · exact absurd hzero hne
      · simp [hunwrap] at hfalse
    · refine (hup side n).trans ?_
      have hmem : (side, n) ∈ ((List.finRange 4).map fun n => (Side.rack, n)) ++ (List.finRange 4).map fun n => (Side.campus, n) := by
        cases side <;> simp
      rw [decide_eq_true hmem, Bool.true_and]
      rfl
    · refine congrArg Control.pump (hcontrol.trans ?_)
      rw [hunwrap, List.filter_append, List.map_append, List.filter_map, List.filter_map, List.map_map, List.map_map]
      rfl
  · have heq : s.endSelfTest passed unwrap = ((s.withLanes (testedLanes passed)).withDevice { s.device with state := .failed }).notify
        (.startedUp .failed passed unwrap) := by
      simp only [State.endSelfTest, if_neg hpass]
      rfl
    rw [heq]
    exact ⟨testedLanes_get passed, rfl, rfl, rfl, rfl, rfl, rfl, rfl, fun _ => ⟨rfl, rfl, rfl⟩, fun hne hu => absurd ⟨hne, hu⟩ hpass⟩

end Sys2Proof.Machine
end

section
/-! SUPPORT. Bytes of request bodies, repeats of one item, and the requests on links, on the classifier's tables, on purges and on the
provisioning area. -/

namespace Sys2Proof.Machine

/-! ### Bytes of a body (R166) -/

theorem beNat_singleton (b : Byte) : beNat [b] = b.toNat := by simp [beNat]

/-- A field of one byte is the byte at its offset. -/
theorem numAt_one (bs : Bytes) (i : Nat) : numAt bs i 1 = (byteAt bs i).toNat := by
  unfold numAt slice byteAt
  rw [List.getD_eq_getElem?_getD, ← List.head?_drop]
  rcases bs.drop i with _ | ⟨b, rest⟩
  · rfl
  · exact beNat_singleton b

/-- A number of two bytes read back. -/
theorem beNat_u16 {v : Nat} (h : v < 65536) : beNat (u16 v) = v := by
  simp [u16, beBytes, beNat]
  omega

theorem u8_eq (v : Nat) : u8 v = [BitVec.ofNat 8 v] := by simp [u8, beBytes]

theorem toLink?_val (n : LinkId) : toLink? n.val = some n := dif_pos n.isLt

theorem toLink?_of_eq {n : LinkId} {v : Nat} (h : n.val = v) : toLink? v = some n := h ▸ toLink?_val n

theorem toLink?_eq_none {v : Nat} (h : 4 ≤ v) : toLink? v = none := dif_neg (Nat.not_lt.2 h)

theorem toAssoc?_val (a : AssocId) : toAssoc? a.val = some a := dif_pos a.isLt

theorem toAssoc?_of_eq {a : AssocId} {v : Nat} (h : a.val = v) : toAssoc? v = some a := h ▸ toAssoc?_val a

theorem toAssoc?_eq_none {v : Nat} (h : 2048 ≤ v) : toAssoc? v = none := dif_neg (Nat.not_lt.2 h)

theorem yesNo?_eq_none {v : Nat} (h : 1 < v) : yesNo? v = none := by
  unfold yesNo?
  split
  · omega
  · omega
  · rfl

/-- R166: a byte that is 0 or 1 as a yes/no value. -/
theorem yesNo?_numAt {b : Bytes} {i : Nat} {x : Bool} (h : byteAt b i = if x then 1 else 0) : yesNo? (numAt b i 1) = some x := by
  rw [numAt_one, h]
  cases x <;> rfl

theorem Verdict.ofCode_code (v : Verdict) : Verdict.ofCode v.code.toNat = some v := by cases v <;> rfl

theorem Verdict.ofCode_eq_none {v : Nat} (h : 2 < v) : Verdict.ofCode v = none := by
  unfold Verdict.ofCode
  split
  · omega
  · omega
  · omega
  · rfl

theorem Mode.ofCode_code (m : Mode) : Mode.ofCode m.code = some m := by cases m <;> rfl

theorem Mode.ofCode_eq_none {b : Byte} (h : 3 < b.toNat) : Mode.ofCode b = none := by
  unfold Mode.ofCode
  split
  · omega
  · omega
  · omega
  · omega
  · rfl

/-! ### Repeats of one item (R167) -/

/-- R165, R167: a repeat that asks for one item does it and replies. -/
theorem runRepeat_once {s u : State} {k : Repeatable} {q : Request} {rest : List Request} {fl : Flags} {data : Bytes} {i : Nat}
    (hb : s.canBegin q rest) (hbegin : s.beginRequest k.code false k.conditional = some (q, none)) (hrep : q.repeatCount = 0)
    (hlen : q.body.length = k.bodyLength) (hfirst : k.first q = i) (hlast : i ≤ k.lastIndex) (hcheck : k.bodyCheck q = none)
    (hitem : k.item q i s = (u, fl, data)) (hu : u.control = s.control) :
    s.runRepeat k = u.withControl (s.control.repliedItems fl 1 data) := by
  subst hfirst
  rw [runRepeat_of_idle hb hbegin, beginRepeat_of_good hlen hlast hcheck, hrep, doItem_last (by simp), hitem, Flags.none_join,
    List.nil_append, answer_pump, hu]
  rfl

/-- R165, R167: a repeat whose whole-body checks refuse it. -/
theorem runRepeat_of_bodyCheck {s : State} {k : Repeatable} {q : Request} {rest : List Request} {why : Status}
    (hb : s.canBegin q rest) (hbegin : s.beginRequest k.code false k.conditional = some (q, none))
    (hlen : q.body.length = k.bodyLength) (hlast : k.first q ≤ k.lastIndex) (hcheck : k.bodyCheck q = some why) :
    s.runRepeat k = s.withControl (s.control.answer why Flags.none 0 []).pump := by
  rw [runRepeat_of_idle hb hbegin, State.beginRepeat, if_neg (by simp [hlen]), if_neg (Nat.not_lt.2 hlast), hcheck]
  rfl

theorem numAt_u16 {v : Nat} (h : v < 65536) : numAt (u16 v) 0 2 = v := beNat_u16 h

/-! ### Links (R148 to R152) -/

theorem State.setMode_eq (s : State) (n : LinkId) (m : Mode) : s.setMode n m
    = if (s.link n).mode = m then s
      else s.setLink n { s.link n with
        mode := m
        cover := { nextAt := if m = .cover then some (s.now + (s.link n).params.coverInterval * Config.usTicks) else none,
                   stalled := false, skipped := (s.link n).cover.skipped } } := rfl

theorem State.control_setMode (s : State) (n : LinkId) (m : Mode) : (s.setMode n m).control = s.control := by
  unfold State.setMode
  split <;> rfl

/-- R149: what is left of a transmit pause, in quanta rounded up. -/
theorem Port.report_eq (p : Port) (now : Nat) : p.report now
    = [upCode p.up] ++ u16 (match p.pausedUntil with
        | some t => (t - now + 511) / 512
        | none => Config.notPaused) := by
  rcases h : p.pausedUntil with _ | t <;> simp [Port.report, h, ceilDiv, Config.quantumTicks]

theorem beBytes_length (w v : Nat) : (beBytes w v).length = w := by
  induction w generalizing v with
  | zero => rfl
  | succ w ih => simp [beBytes, ih]

theorem u8_length (v : Nat) : (u8 v).length = 1 := beBytes_length 1 v

theorem u16_length (v : Nat) : (u16 v).length = 2 := beBytes_length 2 v

/-- R149: the 48 bytes of a link's report. -/
theorem Link.report_eq (l : Link) (n : LinkId) (now : Nat) : l.report n now
    = u8 n.val ++ [l.mode.code]
      ++ [upCode l.rack.up] ++ u16 (match l.rack.pausedUntil with
            | some t => (t - now + 511) / 512
            | none => Config.notPaused)
      ++ [upCode l.campus.up] ++ u16 (match l.campus.pausedUntil with
            | some t => (t - now + 511) / 512
            | none => Config.notPaused)
      ++ [if l.egress.pausing then 1 else 0] ++ u16 l.egress.free
      ++ [if l.ingress.pausing then 1 else 0] ++ u16 l.ingress.free
      ++ u8 l.egress.queue.length ++ u8 (heldCount l.egress.queue)
      ++ u8 l.ingress.queue.length ++ u8 (heldCount l.ingress.queue)
      ++ yesNo l.cover.stalled ++ zeros 29 := by
  rw [Link.report, Port.report_eq, Port.report_eq, padTo]
  simp [u8_length, u16_length, yesNo, pausingCode]

theorem Counters.values_length (c : Counters) : c.values.length = 35 := by simp [Counters.values]

theorem flatMap_u48_length (vs : List Nat) : (vs.flatMap u48).length = 6 * vs.length := by
  induction vs with
  | nil => rfl
  | cons v vs ih =>
    have hv : (u48 v).length = 6 := beBytes_length 6 v
    simp [ih, hv]
    omega

end Sys2Proof.Machine
end

section
/-! Certificates: the requests on links. -/

namespace Sys2Proof.Machine

/-- Settles O16. -/
theorem setLinkModeChangesMode : Obligations.SetLinkModeChangesMode := by
  intro s q rest b0 b1 h hbody
  have hlen : q.body.length = 2 := by rw [hbody]; rfl
  have hfirst : numAt q.body 0 1 = b0.toNat := by rw [numAt_one, hbody]; rfl
  have hsecond : byteAt q.body 1 = b1 := by rw [hbody]; rfl
  refine ⟨fun hb => ?_, fun n hn => ⟨fun hb => ?_, fun m hm => ?_⟩⟩
  · exact congrArg Host.Outcome.next (runOnce_of_self h hlen (act := fun q s => s.setLinkMode q)
      (by rw [State.setLinkMode, hfirst, toLink?_eq_none hb]) false false)
  · exact congrArg Host.Outcome.next (runOnce_of_self h hlen (act := fun q s => s.setLinkMode q)
      (by rw [State.setLinkMode, hfirst, toLink?_of_eq hn, hsecond, Mode.ofCode_eq_none hb]) false false)
  · rw [← State.setMode_eq]
    have hb0 : u8 n.val = [b0] := by simp [u8_eq, hn]
    refine congrArg Host.Outcome.next (runOnce_of_answer h hlen (act := fun q s => s.setLinkMode q) ?_ (s.control_setMode n m) false false)
    rw [State.setLinkMode, hfirst, toLink?_of_eq hn, hsecond, ← hm, Mode.ofCode_code]
    simp only [hb0, List.singleton_append]

/-- Settles O18. -/
theorem linkReportsAndCounters : Obligations.LinkReportsAndCounters := by
  have hbyte : ∀ n : LinkId, (BitVec.ofNat 8 n.val : Byte).toNat = n.val := by decide
  refine ⟨fun s q rest n h hrep hbody => ?_, fun s q rest n h => ⟨fun c hc hbody => ?_, fun hrep clear hbody => ⟨?_, ?_⟩⟩⟩
  · refine Eq.trans ?_ (congrArg (fun body => Host.Outcome.next (s.withControl (s.control.repliedItems Flags.none 1 body)))
      ((s.link n).report_eq n s.now))
    refine congrArg Host.Outcome.next (runRepeat_once h.1 (beginRequest_of_asks h false false) hrep (by rw [hbody]; rfl) (i := n.val) ?_
      (Nat.le_of_lt_succ n.isLt) rfl ?_ rfl)
    · change numAt q.body 0 1 = _
      rw [numAt_one, hbody, u8_eq]
      exact hbyte n
    · change State.readLinkItem q n.val s = _
      rw [State.readLinkItem, toLink?_val]
  · have hfirst : numAt q.body 0 1 = n.val := by rw [numAt_one, hbody, u8_eq]; exact hbyte n
    refine congrArg Host.Outcome.next (runRepeat_of_bodyCheck h.1 (beginRequest_of_asks h false false) (by rw [hbody]; rfl) ?_ ?_)
    · change numAt q.body 0 1 ≤ 3
      omega
    · have hsecond : numAt q.body 1 1 = c.toNat := by rw [numAt_one, hbody]; rfl
      change (if 1 < numAt q.body 1 1 then some Status.badField else none) = _
      rw [hsecond, if_pos hc]
  · have hfirst : numAt q.body 0 1 = n.val := by rw [numAt_one, hbody, u8_eq]; exact hbyte n
    have hsecond : byteAt q.body 1 = if clear then 1 else 0 := by rw [hbody]; rfl
    refine congrArg Host.Outcome.next (runRepeat_once h.1 (beginRequest_of_asks h false false) hrep (by rw [hbody]; rfl) hfirst
      (Nat.le_of_lt_succ n.isLt) ?_ ?_ ?_)
    · change (if 1 < numAt q.body 1 1 then some Status.badField else none) = _
      rw [numAt_one, hsecond]
      cases clear <;> rfl
    · change State.readCountersItem q n.val s = _
      rw [State.readCountersItem, toLink?_val, hsecond]
      cases clear <;> rfl
    · cases clear <;> rfl
  · rw [List.length_append, flatMap_u48_length, List.length_append, List.length_append, Counters.values_length, Counters.values_length]
    rfl

end Sys2Proof.Machine
end

section
/-! SUPPORT. The fields of the requests on the classifier's tables, on purges and on the provisioning area, and the report of the Store. -/

namespace Sys2Proof.Machine

/-! ### The flow table (R97 to R101) -/

theorem flowKeyOf_eq {b : Bytes} {n : LinkId} {any : Bool} (hn : n.val = numAt b 0 1) (hv : numAt b 1 2 ≤ 4096)
    (ha : byteAt b 3 = if any then 1 else 0) :
    flowKeyOf b = some { link := n, vid := numAt b 1 2, addr := if any then none else some (slice b 4 6) } := by
  rw [flowKeyOf, toLink?_of_eq hn, yesNo?_numAt ha]
  exact if_pos hv

theorem flowKeyOf_eq_none {b : Bytes} (h : 4 ≤ numAt b 0 1 ∨ 4096 < numAt b 1 2 ∨ 1 < numAt b 3 1) : flowKeyOf b = none := by
  unfold flowKeyOf
  split
  next n any hn ha =>
    refine if_neg fun hv => ?_
    obtain h | h | h := h
    · simp [toLink?_eq_none h] at hn
    · omega
    · simp [yesNo?_eq_none h] at ha
  next => rfl

/-- R99: an entry with an association, for ENCRYPT, or with none. -/
theorem flowEntryOf_eq {k : FlowKey} {v : Verdict} {index : Nat} {assoc : Option AssocId}
    (h : if v = .encrypt then ∃ a, assoc = some a ∧ a.val = index else assoc = none) :
    flowEntryOf k v index = some { key := k, verdict := v, assoc := assoc, hits := 0 } := by
  cases v
  case encrypt =>
    obtain ⟨a, rfl, ha⟩ := h
    simp [flowEntryOf, toAssoc?_of_eq ha]
  case bypass | discard =>
    obtain rfl := h
    rfl

theorem FlowTable.find_isSome_iff (t : FlowTable) (k : FlowKey) : (t.find k).isSome = true ↔ ∃ e ∈ t.chain k.bucket, e.key = k := by
  simp [FlowTable.find]

theorem assocCode_eq (a : Option AssocId) : assocCode a = match a with | some a => u16 a.val | none => [0xFF, 0xFF] := by
  cases a <;> rfl

/-- R101: the report of a bucket. -/
theorem bucketReport_eq (b : Nat) (c : List FlowEntry) : bucketReport b c
    = u16 b ++ u8 c.length ++ [0] ++ c.flatMap FlowEntry.report := by
  have hpad : padTo 4 (u16 b ++ u8 c.length) = u16 b ++ u8 c.length ++ [0] := by
    simp [padTo, u16_length, u8_length, zeros]
  rw [bucketReport, hpad]

/-! ### Purges and the bank operation unit (R43, R44, R52 to R59) -/

theorem purgeOf_eq_none {b : Bytes} (h : 3 < numAt b 0 1 ∨ 511 < numAt b 1 2 ∨ numAt b 3 2 = 0 ∨ 1 < numAt b 5 1 ∨ 1 < numAt b 6 1) :
    purgeOf b = none := by
  unfold purgeOf
  split
  next bank skip barred hbank hskip hbarred =>
    refine if_pos ?_
    obtain h | h | h | h | h := h
    · simp [toLink?_eq_none h] at hbank
    · exact .inl h
    · exact .inr h
    · simp [yesNo?_eq_none h] at hskip
    · simp [yesNo?_eq_none h] at hbarred
  next => rfl

theorem purgeOf_eq {b : Bytes} {bank : BankId} {first count : Nat} {skip barred : Bool} (hbank : bank.val = numAt b 0 1)
    (hfirst : first = numAt b 1 2) (hcount : count = numAt b 3 2) (hf : first ≤ 511) (hc : 1 ≤ count)
    (hskip : byteAt b 5 = if skip then 1 else 0) (hbarred : byteAt b 6 = if barred then 1 else 0) :
    purgeOf b = some ({ bank := bank, first := first, last := min 511 (first + count - 1), skipPinned := skip, barred := barred,
                        active := true, cursor := first, purged := 0, skipped := 0, visiting := false },
      decide (511 < first + count - 1)) := by
  subst hfirst hcount
  rw [purgeOf, toLink?_of_eq (n := bank) hbank, yesNo?_numAt hskip, yesNo?_numAt hbarred]
  exact if_neg (by omega)

theorem bankOf_eq_iff (a : AssocId) (b : BankId) : bankOf a = b ↔ a.val / 512 = b.val := by simp [bankOf, Fin.ext_iff]

theorem BankUnit.stateOf_installing_iff (u : BankUnit) (b : BankId) :
    u.stateOf b = .installing ↔ ∃ i, u.install = some i ∧ i.index.val / 512 = b.val := by
  have hinstall : (u.install.map fun i => bankOf i.index) = some b ↔ ∃ i, u.install = some i ∧ i.index.val / 512 = b.val := by
    simp [Option.map_eq_some_iff, bankOf_eq_iff]
  unfold BankUnit.stateOf
  split
  next h => simp [hinstall.1 h]
  next h =>
    refine ⟨fun hs => ?_, fun hex => absurd (hinstall.2 hex) h⟩
    split at hs
    · split at hs
      · split at hs <;> simp at hs
      · simp at hs
    · simp at hs

/-- R43: a bank in which nothing is installed is in the state that the purge gives it. -/
theorem BankUnit.stateOf_of_not_installing {u : BankUnit} {b : BankId} (h : ¬ ∃ i, u.install = some i ∧ i.index.val / 512 = b.val) :
    u.stateOf b = match u.purge with
      | some p => if p.bank = b then (if p.active then .purging else .purgeSuspended) else .serving
      | none => .serving := by
  refine if_neg fun hi => h ?_
  obtain ⟨i, hi, hb⟩ := Option.map_eq_some_iff.1 hi
  exact ⟨i, hi, (bankOf_eq_iff _ _).1 hb⟩

theorem BankUnit.stateOf_purging_iff (u : BankUnit) (b : BankId) :
    u.stateOf b = .purging ↔ (¬ ∃ i, u.install = some i ∧ i.index.val / 512 = b.val)
      ∧ ∃ p, u.purge = some p ∧ p.bank = b ∧ p.active = true := by
  by_cases h : ∃ i, u.install = some i ∧ i.index.val / 512 = b.val
  · simp [(u.stateOf_installing_iff b).2 h, h]
  · rw [BankUnit.stateOf_of_not_installing h]
    rcases u.purge with _ | p
    · simp
    · by_cases hb : p.bank = b
      · cases hp : p.active <;> simp [hb, hp, h]
      · simp [hb]

theorem BankUnit.stateOf_purgeSuspended_iff (u : BankUnit) (b : BankId) :
    u.stateOf b = .purgeSuspended ↔ (¬ ∃ i, u.install = some i ∧ i.index.val / 512 = b.val)
      ∧ ∃ p, u.purge = some p ∧ p.bank = b ∧ p.active = false := by
  by_cases h : ∃ i, u.install = some i ∧ i.index.val / 512 = b.val
  · simp [(u.stateOf_installing_iff b).2 h, h]
  · rw [BankUnit.stateOf_of_not_installing h]
    rcases u.purge with _ | p
    · simp
    · by_cases hb : p.bank = b
      · cases hp : p.active <;> simp [hb, hp, h]
      · simp [hb]

/-- R43: no bank operates when nothing is installed and no purge is ACTIVE. -/
theorem BankUnit.ready_iff (u : BankUnit) : u.ready = true ↔ u.install = none ∧ ∀ p, u.purge = some p → p.active = false := by
  have hready : u.ready = true ↔ ∀ b, u.stateOf b ≠ .installing ∧ u.stateOf b ≠ .purging := by
    simp [BankUnit.ready, BankUnit.operating, List.find?_eq_none]
  rw [hready]
  constructor
  · intro h
    have hi : u.install = none := by
      rcases hi : u.install with _ | i
      · rfl
      · exact absurd ((u.stateOf_installing_iff (bankOf i.index)).2 ⟨i, hi, rfl⟩) (h _).1
    refine ⟨hi, fun p hp => ?_⟩
    by_contra hactive
    exact (h p.bank).2 ((u.stateOf_purging_iff p.bank).2 ⟨by simp [hi], p, hp, rfl, by simpa using hactive⟩)
  · rintro ⟨hi, hp⟩ b
    refine ⟨fun h => ?_, fun h => ?_⟩
    · obtain ⟨i, hi', -⟩ := (u.stateOf_installing_iff b).1 h
      simp [hi] at hi'
    · obtain ⟨-, p, hp', -, hactive⟩ := (u.stateOf_purging_iff b).1 h
      simp [hp p hp'] at hactive

/-- R43: with nothing installed the operating bank is that of an ACTIVE purge. -/
theorem BankUnit.operating_of_purge {u : BankUnit} {p : Purge} (hi : u.install = none) (hp : u.purge = some p) :
    u.operating = if p.active then some p.bank else none := by
  have hstate : ∀ b, (u.stateOf b == .installing || u.stateOf b == .purging) = (p.active && decide (b = p.bank)) := by
    intro b
    rw [BankUnit.stateOf_of_not_installing (by simp [hi]), hp]
    by_cases hb : p.bank = b
    · cases hx : p.active <;> simp [hb, hx]
    · simp [hb, Ne.symm hb]
  unfold BankUnit.operating
  simp only [hstate]
  generalize p.bank = b
  cases p.active
  · simp
  · revert b
    decide

/-! ### The provisioning area (R176 to R178) -/

theorem provisionField_eq_none {b : Bytes} (h : 1 < numAt b 0 1 ∨ (numAt b 0 1 = 0 ∧ numAt b 1 1 ≠ 32)
    ∨ (numAt b 0 1 = 1 ∧ (numAt b 1 1 = 0 ∨ 64 < numAt b 1 1))) : provisionField b = none := by
  unfold provisionField
  split
  next h0 => exact if_neg (by omega)
  next h1 => exact if_neg (by omega)
  next => rfl

theorem provisionField_kwk {b : Bytes} (h0 : numAt b 0 1 = 0) (h1 : numAt b 1 1 = 32) : provisionField b = some (.kwk (slice b 2 32)) := by
  rw [provisionField, h0]
  exact if_pos h1

theorem provisionField_label {b : Bytes} (h0 : numAt b 0 1 = 1) (h1 : 1 ≤ numAt b 1 1 ∧ numAt b 1 1 ≤ 64) :
    provisionField b = some (.label (slice b 2 (numAt b 1 1))) := by
  rw [provisionField, h0]
  exact if_pos h1

/-! ### Range rules (R94) -/

theorem RuleField.ofCode_eq_none {v : Nat} (h : 2 < v) : RuleField.ofCode v = none := by
  unfold RuleField.ofCode
  split
  · omega
  · omega
  · omega
  · rfl

theorem Sense.ofCode_eq_none {v : Nat} (h : 1 < v) : Sense.ofCode v = none := by
  unfold Sense.ofCode
  split
  · omega
  · omega
  · rfl

theorem RuleVerdict.ofCode_eq_none {v : Nat} (h : 1 < v) : RuleVerdict.ofCode v = none := by
  unfold RuleVerdict.ofCode
  split
  · omega
  · omega
  · rfl

/-- Table 5-2: the greatest value of the field that a code names. -/
theorem RuleField.max_of_ofCode {b : Byte} {f : RuleField} (h : RuleField.ofCode b.toNat = some f) :
    f.max = if b = 0 then 4096 else if b = 1 then 0xFFFF else 0xFF := by
  unfold RuleField.ofCode at h
  split at h
  next h0 =>
    obtain rfl : b = 0 := BitVec.eq_of_toNat_eq h0
    cases h
    rfl
  next h1 =>
    obtain rfl : b = 1 := BitVec.eq_of_toNat_eq h1
    cases h
    rfl
  next h2 =>
    obtain rfl : b = 2 := BitVec.eq_of_toNat_eq h2
    cases h
    rfl
  next => simp at h

theorem ruleHigh_eq_none {form low second top : Nat} (h : 1 < form ∨ (form = 0 ∧ second < low) ∨ (form = 1 ∧ second = 0)) :
    ruleHigh form low second top = none := by
  unfold ruleHigh
  split
  · exact if_pos (by omega)
  · exact if_pos (by omega)
  · rfl

theorem ruleHigh_eq {form low second top high : Nat}
    (h : (form = 0 ∧ low ≤ second ∧ high = second) ∨ (form = 1 ∧ 1 ≤ second ∧ high = low + second - 1)) :
    ruleHigh form low second top = some (min high top, decide (top < high)) := by
  obtain ⟨rfl, hle, rfl⟩ | ⟨rfl, hpos, rfl⟩ := h
  · exact if_neg (by omega)
  · exact if_neg (by omega)

/-- R94: the body of SET-RANGE-RULE. -/
def ruleBody (i : Fin 32) (on links dirs field sense vd form : Byte) (low second : Nat) : Bytes :=
  u8 i.val ++ [on, links, dirs, field, sense, vd, form] ++ u16 low ++ u16 second

/-- R94: the fields of a body at their offsets. -/
theorem ruleBody_fields (i : Fin 32) (on links dirs field sense vd form : Byte) {low second : Nat} (hl : low < 65536) (hs : second < 65536) :
    numAt (ruleBody i on links dirs field sense vd form low second) 0 1 = i.val
      ∧ byteAt (ruleBody i on links dirs field sense vd form low second) 1 = on
      ∧ byteAt (ruleBody i on links dirs field sense vd form low second) 2 = links
      ∧ byteAt (ruleBody i on links dirs field sense vd form low second) 3 = dirs
      ∧ numAt (ruleBody i on links dirs field sense vd form low second) 4 1 = field.toNat
      ∧ numAt (ruleBody i on links dirs field sense vd form low second) 5 1 = sense.toNat
      ∧ numAt (ruleBody i on links dirs field sense vd form low second) 6 1 = vd.toNat
      ∧ numAt (ruleBody i on links dirs field sense vd form low second) 7 1 = form.toNat
      ∧ numAt (ruleBody i on links dirs field sense vd form low second) 8 2 = low
      ∧ numAt (ruleBody i on links dirs field sense vd form low second) 10 2 = second := by
  have hi : (BitVec.ofNat 8 i.val : Byte).toNat = i.val := by
    rw [BitVec.toNat_ofNat]
    omega
  have hlow := beNat_u16 hl
  have hsecond := beNat_u16 hs
  simp only [numAt_one]
  simp only [ruleBody, u8_eq, byteAt, numAt, slice, u16, beBytes] at hlow hsecond ⊢
  refine ⟨hi, rfl, rfl, rfl, rfl, rfl, rfl, rfl, hlow, hsecond⟩

end Sys2Proof.Machine
end

section
/-! Certificates: the requests on the classifier's tables, on purges and on the provisioning area. -/

namespace Sys2Proof.Machine

/-- Settles O19: the rule of a body whose fields are in their sets, and none of another. -/
theorem setRangeRuleWritesARule : Obligations.SetRangeRuleWritesARule := by
  intro s q rest i on links dirs field sense vd form low second h hrep hlow hsecond hbody top htop
  change q.body = ruleBody i on links dirs field sense vd form low second at hbody
  obtain ⟨hi, hon, hlinks, hdirs, hfield, hsense, hvd, hform, hl, hs⟩ := ruleBody_fields i on links dirs field sense vd form hlow hsecond
  rw [← hbody] at hi hon hlinks hdirs hfield hsense hvd hform hl hs
  have hlen : q.body.length = 12 := by rw [hbody]; simp [ruleBody, u8_length, u16_length]
  refine ⟨fun hbad => ?_, fun f sn v hf hsn hv hle high hhigh => ?_⟩
  · have hnone : ruleOf q.body = none := by
      unfold ruleOf
      rw [hfield, hsense, hvd, hform, hl, hs]
      split
      next f sn v hf hsn hv =>
        have hmax := RuleField.max_of_ofCode hf
        rw [← htop] at hmax
        split
        · rfl
        next hle =>
          have hbad' : 1 < form.toNat ∨ (form.toNat = 0 ∧ second < low) ∨ (form.toNat = 1 ∧ second = 0) := by
            obtain hb | hb | hb | hb | hb | ⟨rfl, hb⟩ | ⟨rfl, hb⟩ := hbad
            · simp [RuleField.ofCode_eq_none hb] at hf
            · simp [Sense.ofCode_eq_none hb] at hsn
            · simp [RuleVerdict.ofCode_eq_none hb] at hv
            · exact .inl hb
            · omega
            · exact .inr (.inl ⟨rfl, hb⟩)
            · exact .inr (.inr ⟨rfl, hb⟩)
          rw [ruleHigh_eq_none hbad']
          rfl
      next => rfl
    refine congrArg Host.Outcome.next (runRepeat_once h.1 (beginRequest_of_asks h false false) hrep hlen hi (Nat.le_of_lt_succ i.isLt) rfl ?_
      rfl)
    change State.setRangeRuleItem q i.val s = _
    rw [State.setRangeRuleItem, hnone]
  · have hmax := RuleField.max_of_ofCode hf
    rw [← htop] at hmax
    have hhigh' : (form.toNat = 0 ∧ low ≤ second ∧ high = second) ∨ (form.toNat = 1 ∧ 1 ≤ second ∧ high = low + second - 1) := by
      obtain ⟨rfl, hh⟩ | ⟨rfl, hh⟩ := hhigh
      · exact .inl ⟨rfl, hh⟩
      · exact .inr ⟨rfl, hh⟩
    have hsome : ruleOf q.body = some (
        { enabled := enabledByte on, links := links.truncate 4, dirs := dirs.truncate 2, field := f, low := low, high := min high top,
          sense := sn, verdict := v }, decide (top < high)) := by
      rw [ruleOf, hfield, hsense, hvd, hform, hl, hs, hf, hsn, hv, hon, hlinks, hdirs]
      simp only [hmax, if_neg (Nat.not_lt.2 hle), ruleHigh_eq hhigh', Option.map_some]
    refine congrArg Host.Outcome.next (runRepeat_once h.1 (beginRequest_of_asks h false false) hrep hlen hi (Nat.le_of_lt_succ i.isLt) rfl ?_
      rfl)
    change State.setRangeRuleItem q i.val s = _
    rw [State.setRangeRuleItem, hsome]
    simp only [dif_pos i.isLt]
    rfl

/-- Settles O22: the key and the entry of the body, then the checks of the table in order. -/
theorem addFlowAddsOrRefuses : Obligations.AddFlowAddsOrRefuses := by
  intro s q rest h hlen
  refine ⟨fun hbad => ?_, fun n any v hn hvid hany hv => ⟨?_, ?_⟩⟩
  · refine congrArg Host.Outcome.next (runOnce_of_self h hlen (act := fun q s => s.addFlowRequest q) ?_ false false)
    unfold State.addFlowRequest
    split
    next k v hk hv =>
      exfalso
      obtain hb | hb | hb | hb := hbad
      · simp [flowKeyOf_eq_none (.inl hb)] at hk
      · simp [flowKeyOf_eq_none (.inr (.inl hb))] at hk
      · simp [flowKeyOf_eq_none (.inr (.inr hb))] at hk
      · simp [Verdict.ofCode_eq_none hb] at hv
    next => rfl
  · rintro ⟨rfl, hindex⟩
    refine congrArg Host.Outcome.next (runOnce_of_self h hlen (act := fun q s => s.addFlowRequest q) ?_ false false)
    rw [State.addFlowRequest, flowKeyOf_eq hn hvid hany, numAt_one q.body 10, ← hv, Verdict.ofCode_code]
    simp only [flowEntryOf, toAssoc?_eq_none hindex, Option.map_none]
  · rintro assoc hassoc k c hk rfl
    obtain ⟨e, he⟩ : ∃ e : FlowEntry, e = { key := k, verdict := v, assoc := assoc, hits := 0 } := ⟨_, rfl⟩
    have hkey : e.key = k := by rw [he]
    have hact : s.addFlowRequest q = s.addFlow e := by
      rw [State.addFlowRequest, flowKeyOf_eq hn hvid hany, numAt_one q.body 10, ← hv, Verdict.ofCode_code]
      simp only [flowEntryOf_eq hassoc, ← hk, ← he]
    have hfind := s.flow.find_isSome_iff k
    rw [← he, ← hkey]
    rw [← hkey] at hfind
    by_cases hdup : ∃ x ∈ s.flow.chain e.key.bucket, x.key = e.key
    · rw [if_pos hdup]
      refine congrArg Host.Outcome.next (runOnce_of_self h hlen (act := fun q s => s.addFlowRequest q) ?_ false false)
      exact hact.trans (if_pos (hfind.2 hdup))
    · have hnew : ¬ (s.flow.find e.key).isSome = true := fun hf => hdup (hfind.1 hf)
      rw [if_neg hdup]
      by_cases hlong : 8 ≤ (s.flow.chain e.key.bucket).length
      · rw [if_pos hlong]
        refine congrArg Host.Outcome.next (runOnce_of_self h hlen (act := fun q s => s.addFlowRequest q) ?_ false false)
        exact hact.trans ((if_neg hnew).trans (if_pos hlong))
      · rw [if_neg hlong]
        by_cases hfull : s.flow.chain e.key.bucket ≠ [] ∧ s.flow.free = 0
        · rw [if_pos hfull]
          refine congrArg Host.Outcome.next (runOnce_of_self h hlen (act := fun q s => s.addFlowRequest q) ?_ false false)
          refine hact.trans ((if_neg hnew).trans ((if_neg hlong).trans (if_pos ⟨?_, hfull.2⟩)))
          simpa using hfull.1
        · rw [if_neg hfull]
          have hadd : { s.flow.setChain e.key.bucket (s.flow.chain e.key.bucket ++ [e]) with
              free := if s.flow.chain e.key.bucket = [] then s.flow.free else s.flow.free - 1 } = s.flow.add e := by
            simp [FlowTable.add]
          rw [hadd]
          refine congrArg Host.Outcome.next (runOnce_of_answer (u := s.withFlow (s.flow.add e)) h hlen (act := fun q s => s.addFlowRequest q)
            ?_ (by rfl) false false)
          exact hact.trans ((if_neg hnew).trans ((if_neg hlong).trans (if_neg fun hx => hfull ⟨by simpa using hx.1, hx.2⟩)))

/-- Settles O23. -/
theorem removeAndReadFlow : Obligations.RemoveAndReadFlow := by
  refine ⟨fun s q rest h hlen => ⟨fun hbad => ?_, fun n any k hn hvid hany hk => ?_⟩, fun s q rest b h hrep hbody => ?_⟩
  · refine congrArg Host.Outcome.next (runOnce_of_self h hlen (act := fun q s => s.removeFlowRequest q) ?_ false false)
    rw [State.removeFlowRequest, flowKeyOf_eq_none hbad]
  · have hact : s.removeFlowRequest q = s.removeFlow k := by rw [State.removeFlowRequest, flowKeyOf_eq hn hvid hany, hk]
    refine ⟨fun hfind => ?_, fun e hfind => ?_⟩
    · refine congrArg Host.Outcome.next (runOnce_of_self h hlen (act := fun q s => s.removeFlowRequest q) ?_ false false)
      rw [hact, State.removeFlow, hfind]
    · refine congrArg Host.Outcome.next (runOnce_of_answer (u := s.withFlow (s.flow.remove k)) h hlen
        (act := fun q s => s.removeFlowRequest q) ?_ (by rfl) false false)
      rw [hact, State.removeFlow, hfind]
      exact congrArg (fun x => State.answerOnce _ .ok Flags.none ([e.verdict.code] ++ x ++ u32 e.hits)) (assocCode_eq e.assoc)
  · rw [← bucketReport_eq]
    have hfirst : numAt q.body 0 2 = b.val := by rw [hbody]; exact numAt_u16 (by omega)
    refine congrArg Host.Outcome.next (runRepeat_once h.1 (beginRequest_of_asks h false false) hrep (by rw [hbody]; rfl) hfirst
      (Nat.le_of_lt_succ b.isLt) rfl ?_ rfl)
    have hchain : s.bucketChain b.val = s.flow.chain b := dif_pos b.isLt
    change (s, Flags.none, bucketReport b.val (s.bucketChain b.val)) = _
    rw [hchain]

/-- Settles O35. -/
theorem purgeStarts : Obligations.PurgeStarts := by
  intro s q rest h hlen
  refine ⟨fun hbad => ?_, fun b first count skip barred hb hfirst hcount hf hc hskip hbarred p hp => ?_⟩
  · refine congrArg Host.Outcome.next (runOnce_of_self h hlen (act := fun q s => s.purgeRequest q) ?_ false false)
    rw [State.purgeRequest, purgeOf_eq_none hbad]
  · have hact : s.purgeRequest q = if s.bank.purge.isSome ∨ s.bank.install.isSome then s.answerOnce .storeBusy Flags.none []
        else (s.withBank { s.bank with purge := some p, stop := .none }).answerOnce .started
          { Flags.none with clamped := decide (511 < first + count - 1) } [] := by
      rw [State.purgeRequest, purgeOf_eq hb hfirst hcount hf hc hskip hbarred, ← hp]
    by_cases hbusy : s.bank.purge ≠ none ∨ s.bank.install ≠ none
    · rw [if_pos hbusy]
      refine congrArg Host.Outcome.next (runOnce_of_self h hlen (act := fun q s => s.purgeRequest q) ?_ false false)
      exact hact.trans (if_pos (by simpa [Option.isSome_iff_ne_none] using hbusy))
    · rw [if_neg hbusy]
      refine congrArg Host.Outcome.next (runOnce_of_answer h hlen (act := fun q s => s.purgeRequest q) ?_ (by rfl) false false)
      exact hact.trans (if_neg (by simpa [Option.isSome_iff_ne_none] using hbusy))

/-- Settles O36: each request by the purge there is, and by whether its record drains. -/
theorem purgeControlRequests : Obligations.PurgeControlRequests := by
  intro s q rest hbody
  have hlen : q.body.length = 0 := by rw [hbody]; rfl
  refine ⟨fun h => ⟨fun hnone => ?_, fun p hp hactive => ⟨fun hvisit => ?_, fun hvisit hstop => ?_⟩⟩,
    fun h => ⟨fun hnone => ?_, fun p hp hactive => ⟨fun hinst => ?_, fun hinst => ?_⟩⟩,
    fun h => ⟨fun hnone => ?_, fun p hp => ⟨fun hvisit => ?_, fun hvisit => ?_⟩⟩⟩
  · refine congrArg Host.Outcome.next (runOnce_of_self h hlen (act := fun _ s => s.suspendPurge) ?_ false false)
    rw [State.suspendPurge]
    split
    next p hp => exact if_pos (hnone p hp)
    next => rfl
  · refine congrArg Host.Outcome.next (runOnce_of_answer h hlen (act := fun _ s => s.suspendPurge) ?_ (by rfl) false false)
    simp [State.suspendPurge, hp, hactive, hvisit]
  · refine congrArg Host.Outcome.next ((runOnce_of_asks h false false _).trans ?_)
    rw [withBody_of_length hlen]
    have hact : s.suspendPurge = s.awaitBoundary .suspend := by simp [State.suspendPurge, hp, hactive, hvisit]
    rw [hact, State.awaitBoundary, hstop]
    rfl
  · refine congrArg Host.Outcome.next (runOnce_of_self h hlen (act := fun _ s => s.resumePurge) ?_ false false)
    rw [State.resumePurge]
    split
    next p hp => exact if_pos (hnone p hp)
    next => rfl
  · refine congrArg Host.Outcome.next (runOnce_of_self h hlen (act := fun _ s => s.resumePurge) ?_ false false)
    simp [State.resumePurge, hp, hactive, Option.isSome_iff_ne_none, hinst]
  · refine congrArg Host.Outcome.next (runOnce_of_answer h hlen (act := fun _ s => s.resumePurge) ?_ (by rfl) false false)
    simp [State.resumePurge, hp, hactive, hinst]
  · refine congrArg Host.Outcome.next (runOnce_of_self h hlen (act := fun _ s => s.cancelPurge) ?_ false false)
    simp [State.cancelPurge, hnone]
  · have ⟨⟨hreq, _⟩, _⟩ := h
    refine congrArg Host.Outcome.next ((runOnce_of_asks h false false _).trans ?_)
    have hact : s.cancelPurge = (s.endPurge p true).answerOnce .ok Flags.none [] := by simp [State.cancelPurge, hp, hvisit]
    rw [withBody_of_length hlen, hact, answerOnce_pump ((s.control.quiet_notify (.purgeDone true p)).requests.trans hreq)]
    rfl
  · refine congrArg Host.Outcome.next ((runOnce_of_asks h false false _).trans ?_)
    have hact : s.cancelPurge = s.awaitBoundary .cancel := by simp [State.cancelPurge, hp, hvisit]
    rw [withBody_of_length hlen, hact, State.awaitBoundary, ite_self]
    rfl

/-- Settles O39. -/
theorem storeStatusReports : Obligations.StoreStatusReports := by
  refine ⟨fun s q rest h hbody => ?_, fun u b => ⟨u.stateOf_installing_iff b, u.stateOf_purging_iff b, u.stateOf_purgeSuspended_iff b,
    u.ready_iff⟩, fun u hi hp => ?_, fun u p hi hp => ?_⟩
  · exact congrArg Host.Outcome.next (runOnce_of_self h (by rw [hbody]; rfl)
      (act := fun _ s => s.answerOnce .ok Flags.none s.bank.report) rfl false false)
  · have hstate : ∀ b, u.stateOf b = .serving := fun b => by
      rw [BankUnit.stateOf_of_not_installing (by simp [hi]), hp]
    have hop : u.operating = none := by simp [BankUnit.operating, hstate]
    rw [BankUnit.report, BankUnit.ready, hop, hp]
    simp only [hstate]
    rcases u.lastInstall with _ | ⟨st, a⟩ <;> rfl
  · have hstate : ∀ b, (u.stateOf b).code = if b = p.bank then (if p.active then 2 else 3) else 0 := by
      intro b
      rw [BankUnit.stateOf_of_not_installing (by simp [hi]), hp]
      by_cases hb : b = p.bank
      · cases hx : p.active <;> simp [hb, hx, BankState.code]
      · simp [hb, Ne.symm hb, BankState.code]
    rw [BankUnit.report, BankUnit.ready, BankUnit.operating_of_purge hi hp, hp]
    simp only [hstate, purgeReport, List.append_assoc]
    cases p.active <;> rcases u.lastInstall with _ | ⟨st, a⟩ <;> rfl

/-- Settles O40: the field of the body and the checks of the area; then the end of programming; then what no command changes. -/
theorem provisioningIsWrittenOnce : Obligations.ProvisioningIsWrittenOnce := by
  refine ⟨fun s q rest h hlen sel len hsel hl => ⟨fun hbad => ?_, fun f written hf => ?_⟩, fun s q rest h hlen => ⟨fun hlocked => ?_,
    fun hopen hkwk => ?_, fun key check hopen hkwk => ?_⟩, fun s => ⟨fun hnone => ?_, fun q rest p' body hreq hp => ?_⟩,
    fun i s t hl hp h => exec_prov_of_locked hl hp h⟩
  · subst hsel hl
    refine congrArg Host.Outcome.next (runOnce_of_self h hlen (act := fun q s => s.provisionWrite q) ?_ false false)
    rw [State.provisionWrite, provisionField_eq_none hbad]
  · subst hsel hl
    have hfield : provisionField q.body = some f ∧ s.prov.hasField f = written := by
      obtain ⟨h0, h1, rfl, rfl⟩ | ⟨h0, h1, h2, rfl, rfl⟩ := hf
      · exact ⟨provisionField_kwk h0 h1, rfl⟩
      · exact ⟨provisionField_label h0 ⟨h1, h2⟩, rfl⟩
    have hact : s.provisionWrite q = if s.prov.locked then s.answerOnce .locked Flags.none []
        else if written then s.answerOnce .alreadyWritten Flags.none [] else s.startProgramming f := by
      rw [State.provisionWrite, hfield.1]
      simp only [hfield.2]
    by_cases hlocked : s.prov.locked = true
    · rw [if_pos hlocked]
      exact congrArg Host.Outcome.next (runOnce_of_self h hlen (act := fun q s => s.provisionWrite q)
        (hact.trans (if_pos hlocked)) false false)
    · rw [if_neg hlocked]
      by_cases hwritten : written = true
      · rw [if_pos hwritten]
        exact congrArg Host.Outcome.next (runOnce_of_self h hlen (act := fun q s => s.provisionWrite q)
          (hact.trans ((if_neg hlocked).trans (if_pos hwritten))) false false)
      · rw [if_neg hwritten]
        refine congrArg Host.Outcome.next ((runOnce_of_asks h false false _).trans ?_)
        rw [withBody_of_length hlen, hact, if_neg hlocked, if_neg hwritten]
        rfl
  · exact congrArg Host.Outcome.next (runOnce_of_self h hlen (act := fun q s => s.provisionLock q) (if_pos hlocked) false false)
  · refine congrArg Host.Outcome.next (runOnce_of_self h hlen (act := fun q s => s.provisionLock q) ?_ false false)
    rw [State.provisionLock, if_neg (by simp [hopen]), hkwk]
  · have hact : s.provisionLock q = if q.body = check then s.startProgramming .lock else s.answerOnce .badField Flags.none [] := by
      rw [State.provisionLock, if_neg (by simp [hopen]), hkwk]
    by_cases hcheck : q.body = check
    · rw [if_pos hcheck]
      refine congrArg Host.Outcome.next ((runOnce_of_asks h false false _).trans ?_)
      rw [withBody_of_length hlen, hact, if_pos hcheck]
      rfl
    · rw [if_neg hcheck]
      exact congrArg Host.Outcome.next (runOnce_of_self h hlen (act := fun q s => s.provisionLock q)
        (hact.trans (if_neg hcheck)) false false)
  · refine congrArg Host.Outcome.next ?_
    rw [State.endProgramming, hnone]
  · obtain ⟨f, hf, hfinish, hreply⟩ : ∃ f, s.prov.programming = some f ∧ s.prov.finish = p' ∧ f.reply = body := by
      obtain ⟨key, hk, rfl, rfl⟩ | ⟨text, ht, rfl, rfl⟩ | ⟨hl, rfl, rfl⟩ := hp
      · exact ⟨_, hk, by rw [Provisioning.finish, hk]; rfl, rfl⟩
      · exact ⟨_, ht, by rw [Provisioning.finish, ht], rfl⟩
      · exact ⟨_, hl, by rw [Provisioning.finish, hl], rfl⟩
    have hexec : exec .programmingComplete s = .next (if s.device.resetWaits then (s.withProv p').hardResetNow
        else ((s.withProv p').answerOnce .ok Flags.none body).pump) := by
      refine congrArg Host.Outcome.next ?_
      rw [State.endProgramming, hf]
      simp only [hfinish, hreply]
    refine ⟨fun hw => ?_, fun hw => ?_⟩
    · rw [hexec, if_neg (by simp [hw]), answerOnce_pump (s := s.withProv p') hreq]
      rfl
    · rw [hexec, if_pos hw]
      exact ⟨_, rfl, State.hardResetTo.of_links (t := s.withProv p') rfl, rfl, rfl⟩

end Sys2Proof.Machine
end

section
/-! SUPPORT. Heads that leave at a DOWN port, PAUSE frames, and the hold of a record (R113, R117, R138 to R146, R79 to R81). -/

namespace Sys2Proof.Machine

/-! ### Heads at a DOWN port (R113, R117, R132) -/

/-- A head that a DOWN port lets wait: neither DROPPED nor DONE. -/
def Entry.waits (e : Entry) : Prop := e.isDropped = false ∧ e.state ≠ .done

theorem State.queue_popHead (s : State) (d : Dir) (n : LinkId) : ((s.popHead d n).path d n).queue = (s.path d n).queue.tail := by
  simp [State.popHead, State.setQueue]

theorem State.port_popHead (s : State) (d : Dir) (n : LinkId) (side : Side) (m : LinkId) : (s.popHead d n).port side m = s.port side m := by
  simp [State.popHead, State.setQueue]

theorem State.queue_dropHead {s : State} {d : Dir} {n : LinkId} {e : Entry} {rest : List Entry} (hq : (s.path d n).queue = e :: rest)
    (why : Reason) : ((s.dropHead d n why).path d n).queue = rest
      ∧ (s.dropHead d n why).port (sendSide d) n = s.port (sendSide d) n := by
  obtain ⟨p, hstep, -, -, hpq, -⟩ := s.dropHead_spec d n why e rest hq
  obtain ⟨hpath, -, -, -, -, -, -, hport, -⟩ := State.pathStep_frame hstep
  refine ⟨by rw [hpath, hpq], hport _ _ fun h => ?_⟩
  exact feedSide_ne_sendSide d (Prod.mk.inj h).1

/-- A state in which the queue of link `n` has lost its head and the port that it leaves through is as it was. -/
def State.HeadGone (s t : State) (n : LinkId) (rest : List Entry) : Prop :=
  (t.path .ingress n).queue = rest ∧ t.port .rack n = s.port .rack n

theorem State.headGone_dropHead {s : State} {n : LinkId} {e : Entry} {rest : List Entry} (hq : (s.path .ingress n).queue = e :: rest)
    (why : Reason) : s.HeadGone (s.dropHead .ingress n why) n rest := State.queue_dropHead hq why

theorem State.headGone_consumeCover {s : State} {n : LinkId} {e : Entry} {rest : List Entry} (hq : (s.path .ingress n).queue = e :: rest)
    (a : AssocId) : s.HeadGone (s.consumeCover n a e) n rest := by
  unfold State.consumeCover
  dsimp only
  generalize hu : State.setRecord _ a _ = u
  have hpath : (u.path .ingress n).queue = rest := by
    rw [← hu, State.path_setRecord, State.path_setPath_same]
    exact (s.queue_popHead .ingress n).trans (by rw [hq]; rfl)
  have hport : u.port .rack n = s.port .rack n := by
    rw [← hu, State.port_setRecord, State.port_setPath, State.port_popHead]
  obtain ⟨p, hstep, -, -, hpq, -⟩ := u.freeCells_spec .ingress n e.cells
  obtain ⟨hp, -, -, -, -, -, -, ho, -⟩ := State.pathStep_frame hstep
  exact ⟨by rw [hp, hpq, hpath], (ho .rack n (by simp [feedSide])).trans hport⟩

/-- R132: the rollover that a release asks for touches no queue and no port. -/
theorem State.links_requestRollover (s : State) (a : AssocId) (p : Phase) : (s.requestRollover a p).links = s.links := by
  unfold State.requestRollover
  dsimp only
  split
  · split
    · split
      · unfold State.rollIngress
        dsimp only
        split <;> rfl
      · rfl
    · rfl
  · rfl

/-- R117, R132: at a DOWN port a VERIFIED head leaves at its release, unless it names no key that is there. -/
theorem State.releaseHead_of_down {s : State} {n : LinkId} {e : Entry} {rest : List Entry} (hq : (s.path .ingress n).queue = e :: rest)
    (hdown : (s.port .rack n).up = false) : s.releaseHead n = s ∨ s.HeadGone (s.releaseHead n) n rest := by
  unfold State.releaseHead
  rw [hq]
  dsimp only
  split
  · split
    next a p pn _ _ _ =>
      split
      · exact .inl rfl
      · split
        · exact .inr (State.headGone_dropHead hq _)
        · refine .inr ?_
          generalize hu : (s.setRecord a ((s.record a).acceptPn p pn)).requestRollover a p = u
          have hlinks : u.links = s.links := by rw [← hu, State.links_requestRollover]; rfl
          have hpath : (u.path .ingress n).queue = e :: rest := by rw [← hq]; simp [State.path, State.link, hlinks]
          have hport : u.port .rack n = s.port .rack n := by simp [State.port, State.link, hlinks]
          have hgone : u.HeadGone (u.deliver n a e) n rest := by
            unfold State.deliver
            split
            · exact State.headGone_dropHead hpath _
            · split
              · exact State.headGone_consumeCover hpath a
              · rw [if_neg (by simp [hport, hdown])]
                exact State.headGone_dropHead hpath _
          exact ⟨hgone.1, hgone.2.trans hport⟩
    next => exact .inl rfl
  · exact .inl rfl

/-- A head that stays, stays however often it is looked at. -/
theorem State.settleHeads_of_fixed {s : State} {d : Dir} {n : LinkId}
    (h : ∀ e rest, (s.path d n).queue = e :: rest → (∃ why, e.state = .dropped why) ∨ e.state = .done → False)
    (hverified : ∀ e rest, (s.path d n).queue = e :: rest → e.state = .verified → (s.port (sendSide d) n).up = false → d = .ingress →
      s.releaseHead n = s) (k : Nat) : State.settleHeads d n k s = s := by
  induction k with
  | zero => rfl
  | succ k ih =>
    rcases hq : (s.path d n).queue with _ | ⟨e, rest⟩
    · simp [State.settleHeads, hq]
    · simp only [State.settleHeads, hq]
      split
      next why hs => exact absurd (.inl ⟨why, hs⟩) (h e rest hq)
      next hs => exact absurd (.inr hs) (h e rest hq)
      next hs =>
        split
        · rfl
        next hd =>
          have hup : (s.port (sendSide d) n).up = false := by
            rcases hx : (s.port (sendSide d) n).up
            · rfl
            · exact absurd (.inl hx) hd
          have hin : d = .ingress := by
            rcases d
            · exact absurd (.inr rfl) hd
            · rfl
          rw [hverified e rest hq hs hup hin]
          exact ih
      next => rfl

/-- R113, R117: the head of a queue that leaves through a DOWN port waits for something else than its port. -/
theorem State.settleHeads_head_waits {d : Dir} {n : LinkId} (k : Nat) {s : State} (hk : (s.path d n).queue.length ≤ k)
    (hdown : (s.port (sendSide d) n).up = false) {e : Entry} (he : ((State.settleHeads d n k s).path d n).queue.head? = some e) : e.waits := by
  induction k generalizing s with
  | zero =>
    simp [State.settleHeads, List.eq_nil_of_length_eq_zero (Nat.le_zero.1 hk)] at he
  | succ k ih =>
    rcases hq : (s.path d n).queue with _ | ⟨x, rest⟩
    · simp [State.settleHeads, hq] at he
    · have hlen : rest.length ≤ k := by simpa [hq] using hk
      simp only [State.settleHeads, hq] at he
      split at he
      next why hs =>
        refine ih ?_ ?_ he
        · rw [State.queue_popHead, hq]
          exact hlen
        · rwa [State.port_popHead]
      next hs =>
        rw [if_neg (by simp [hdown])] at he
        obtain ⟨hrest, hport⟩ := State.queue_dropHead hq .portDown
        exact ih (by rwa [hrest]) (by rwa [hport]) he
      next hs =>
        have hwaits : x.waits := by simp [Entry.waits, Entry.isDropped, hs]
        split at he
        · rw [hq] at he
          obtain rfl := Option.some.inj he
          exact hwaits
        next hd =>
          obtain rfl : d = .ingress := by
            rcases d
            · exact absurd (.inr rfl) hd
            · rfl
          obtain hsame | ⟨hrest, hport⟩ := State.releaseHead_of_down hq hdown
          · rw [hsame, State.settleHeads_of_fixed ?_ fun _ _ _ _ _ _ => hsame, hq] at he
            · obtain rfl := Option.some.inj he
              exact hwaits
            · intro y ys hy hstate
              obtain ⟨rfl, -⟩ := List.cons.inj (hq.symm.trans hy)
              obtain ⟨why, hw⟩ | hw := hstate <;> simp [hs] at hw
          · exact ih (by rwa [hrest]) ((congrArg Port.up hport).trans hdown) he
      next h1 h2 h3 =>
        rw [hq] at he
        obtain rfl := Option.some.inj he
        refine ⟨?_, h2⟩
        unfold Entry.isDropped
        split
        next why hw => exact absurd hw (h1 why)
        next => rfl

/-- R113, R117: through a DOWN campus port the DROPPED and DONE heads leave, up to the first head that is neither. -/
theorem State.settleHeads_egress_queue {n : LinkId} (k : Nat) {s : State} (hk : (s.path .egress n).queue.length ≤ k)
    (hdown : (s.port .campus n).up = false) : ((State.settleHeads .egress n k s).path .egress n).queue
      = (s.path .egress n).queue.dropWhile fun e => e.isDropped || e.state == .done := by
  induction k generalizing s with
  | zero => simp [State.settleHeads, List.eq_nil_of_length_eq_zero (Nat.le_zero.1 hk)]
  | succ k ih =>
    rcases hq : (s.path .egress n).queue with _ | ⟨x, rest⟩
    · simp [State.settleHeads, hq]
    · have hlen : rest.length ≤ k := by simpa [hq] using hk
      simp only [State.settleHeads, hq]
      split
      next why hs =>
        have htail : ((s.popHead .egress n).path .egress n).queue = rest := by rw [State.queue_popHead, hq]; rfl
        rw [ih (by rwa [htail]) (by rwa [State.port_popHead]), htail]
        simp [Entry.isDropped, hs]
      next hs =>
        obtain ⟨hrest, hport⟩ := State.queue_dropHead hq .portDown
        rw [if_neg (by simp [sendSide, hdown]), ih (by rwa [hrest]) ((congrArg Port.up hport).trans hdown), hrest]
        simp [hs]
      next hs =>
        rw [if_pos (.inr trivial), hq]
        simp [Entry.isDropped, hs]
      next h1 h2 h3 =>
        have hdrop : x.isDropped = false := by
          unfold Entry.isDropped
          split
          next why hw => exact absurd hw (h1 why)
          next => rfl
        rw [hq, List.dropWhile_cons_of_neg]
        simpa [hdrop] using h2

/-- R117: a DONE head that waited for a DOWN port is dropped, and a head behind it that waits for nothing stays. -/
theorem State.settle_done_of_down {s : State} {n : LinkId} {e : Entry} {rest : List Entry} (hq : (s.path .egress n).queue = e :: rest)
    (hs : e.state = .done) (hdown : (s.port .campus n).up = false) (hrest : ∀ e', rest.head? = some e' → e'.waits) :
    s.settle .egress n = s.dropHead .egress n .portDown := by
  obtain ⟨hqueue, -⟩ := State.queue_dropHead hq .portDown
  have hstep : s.settle .egress n = State.settleHeads .egress n rest.length (s.dropHead .egress n .portDown) := by
    simp only [State.settle, hq, List.length_cons, State.settleHeads, hs]
    exact if_neg (by simp [sendSide, hdown])
  rw [hstep]
  refine State.settleHeads_of_fixed (fun x xs hx hstate => ?_) (fun _ _ _ _ _ hd => by simp at hd) _
  obtain ⟨hdrop, hdone⟩ := hrest x (by rw [← hqueue, hx]; rfl)
  obtain ⟨why, hw⟩ | hw := hstate
  · simp [Entry.isDropped, hw] at hdrop
  · exact hdone hw

/-! ### Ports (R138, R139) -/

theorem sendSide_sentDir (side : Side) : sendSide (sentDir side) = side := by cases side <;> rfl

theorem feedSide_fedDir (side : Side) : feedSide (fedDir side) = side := by cases side <;> rfl

/-- R139: what the loss of a signal leaves before the heads settle. -/
def State.portLost (s : State) (side : Side) (n : LinkId) (receiving : Bool) : State :=
  let s1 := s.setPort side n { s.port side n with signal := false, up := false, pausedUntil := none, sending := false, pauseAsked := [] }
  (if receiving then s1.countDrop (fedDir side) n .badFcs 1 else s1).notify (.portDown n side)

theorem State.signalLost_of_up {s : State} {side : Side} {n : LinkId} (h : (s.port side n).up = true) (receiving : Bool) :
    s.signalLost side n receiving = (s.portLost side n receiving).finish (sentDir side) n := if_pos h

theorem State.portLost_frame (s : State) (side : Side) (n : LinkId) (receiving : Bool) :
    ((s.portLost side n receiving).port side n).up = false
      ∧ ∀ d m, ((s.portLost side n receiving).path d m).queue = (s.path d m).queue := by
  unfold State.portLost
  dsimp only
  split
  · refine ⟨by simp [State.countDrop], fun d m => ?_⟩
    by_cases hdm : (d, m) = (fedDir side, n)
    · obtain ⟨rfl, rfl⟩ := Prod.mk.inj hdm
      simp [State.countDrop]
    · simp [State.countDrop, State.path_setPath_ne _ _ hdm]
  · exact ⟨by simp, fun d m => by simp⟩

/-! ### PAUSE frames (R145) -/

theorem resendInterval_eq (b : BufferParams) : resendInterval b = b.quanta * 512 / 2 := rfl

/-- R145: a resend interval that restarts, as one write of the path. -/
theorem State.restartResend_eq (s : State) (d : Dir) (n : LinkId) : s.restartResend d n
    = s.setPath d n { s.path d n with
        resendAt := if (s.path d n).pausing then some (s.now + ((s.params n).buf d).quanta * 512 / 2) else (s.path d n).resendAt } := by
  unfold State.restartResend
  dsimp only
  split
  next h => rfl
  next h => exact (s.setPath_self d n).symm

/-! ### Holds (R79 to R81, R125, R127) -/

theorem Entry.isHeldOf_iff {a : AssocId} {e : Entry} : e.isHeldOf a = true ↔ (∃ st dl, e.state = .held st dl) ∧ e.assoc = some a := by
  rcases hs : e.state with _ | _ | _ | _ | _ | _ <;> simp [Entry.isHeldOf, Entry.isHeld, hs]

theorem Entry.not_isDropped_of_isHeldOf {a : AssocId} {e : Entry} (h : e.isHeldOf a = true) : e.isDropped = false := by
  obtain ⟨⟨st, dl, hs⟩, -⟩ := Entry.isHeldOf_iff.1 h
  simp [Entry.isDropped, hs]

/-- R79: the times of a hold are those of its first entry. -/
theorem holdTimesOf_eq (q : List Entry) (a : AssocId) : holdTimesOf q a = (q.find? (Entry.isHeldOf a)).bind fun e =>
    match e.state with
    | .held st dl => some (st, dl)
    | _ => none := by
  unfold holdTimesOf
  induction q with
  | nil => rfl
  | cons e rest ih =>
    rw [List.findSome?_cons, List.find?_cons]
    by_cases ha : e.assoc = some a
    · rcases hs : e.state with _ | _ | _ | _ | _ | _ <;> simp [ha, hs, Entry.isHeldOf, Entry.isHeld, ih]
    · have hheld : e.isHeldOf a = false := by simp [Entry.isHeldOf, ha]
      simp [ha, hheld, ih]

theorem holdTimesOf_of_find {q : List Entry} {a : AssocId} {e : Entry} {st dl : Nat} (h : q.find? (Entry.isHeldOf a) = some e)
    (hs : e.state = .held st dl) : holdTimesOf q a = some (st, dl) := by
  rw [holdTimesOf_eq, h]
  simp [hs]

theorem holdTimesOf_eq_none {q : List Entry} {a : AssocId} (h : q.filter (Entry.isHeldOf a) = []) : holdTimesOf q a = none := by
  have hnone : q.find? (Entry.isHeldOf a) = none := by simpa [List.find?_eq_none, List.filter_eq_nil_iff] using h
  rw [holdTimesOf_eq, hnone]
  rfl

/-- R113: entries of a hold are none of them DROPPED already. -/
theorem Entry.isHeldOf_and_live (a : AssocId) (e : Entry) : (e.isHeldOf a && !e.isDropped) = e.isHeldOf a := by
  rcases h : e.isHeldOf a
  · rfl
  · simp [Entry.not_isDropped_of_isHeldOf h]

end Sys2Proof.Machine
end

section
/-! Certificates: ports, buffers, arrival, PAUSE frames, transmission and holds. -/

namespace Sys2Proof.Machine

/-- Settles O43: the cases of the two commands, and what the heads of the queue that leaves through the port do. -/
theorem portsFollowTheirSignals : Obligations.PortsFollowTheirSignals := by
  rintro s side n p rfl
  refine ⟨fun h => ?_, fun hr hup hp => ?_, fun hr hup hp => ?_, fun hup r => ?_, fun hup r s1 hs1 => ?_⟩
  · refine congrArg Host.Outcome.next (if_neg ?_)
    obtain h | h := h
    · exact fun hx => h hx.1
    · simp [h]
  · refine congrArg Host.Outcome.next ((if_pos ⟨hr, hup⟩).trans ?_)
    simp [State.portUp, hp]
    rfl
  · refine ⟨_, congrArg Host.Outcome.next (if_pos ⟨hr, hup⟩), ?_⟩
    have hport : (s.setPort side n { s.port side n with signal := true }).portUp side n
        = ((s.setPort side n { s.port side n with
            signal := true, up := true, lineOut := pauseFrame (((s.params n).buf (fedDir side)).quanta) }).restartResend
              (fedDir side) n).notify (.portUp n side) := by
      simp [State.portUp, hp, State.pauseQuanta]
    rw [hport, State.restartResend_eq]
    refine ⟨by simp [State.pump], ?_, rfl⟩
    simp [State.pump, hp]
  · exact congrArg Host.Outcome.next (if_neg (by simp [hup]))
  · subst hs1
    have hexec : exec (.linkSignalLost side n r) s = .next ((s.portLost side n r).finish (sentDir side) n) :=
      congrArg Host.Outcome.next (State.signalLost_of_up hup r)
    obtain ⟨hdown, hqueue⟩ := s.portLost_frame side n r
    refine ⟨hexec, ?_, ?_⟩
    · rintro e rest rfl hq hdone hrest
      rw [hexec]
      refine congrArg (fun u => Host.Outcome.next (State.pump u)) ?_
      exact State.settle_done_of_down ((hqueue .egress n).trans hq) hdone hdown hrest
    · rintro t ht
      obtain rfl := Host.Outcome.next.inj (hexec.symm.trans ht)
      have hdown' : ((s.portLost side n r).port (sendSide (sentDir side)) n).up = false := by rwa [sendSide_sentDir]
      refine ⟨fun e he => State.settleHeads_head_waits _ le_rfl hdown' he, ?_⟩
      rintro rfl
      have hsettle := State.settleHeads_egress_queue _ le_rfl hdown
      exact hsettle.trans (by rw [hqueue])

/-- Settles O44. -/
theorem buffersTestTheirThresholds : Obligations.BuffersTestTheirThresholds := by
  rintro s d n k hk p b rfl rfl t free ht stops resumes rfl rfl
  obtain ⟨p', hp', hfree, heq⟩ : ∃ p' : Path, p' = { s.path d n with free := free } ∧ p'.free = free
      ∧ t = (s.setPath d n (p'.tested ((s.params n).buf d) s.now)).setPort (feedSide d) n
        ((s.port (feedSide d) n).asked (p'.asks ((s.params n).buf d))) := by
    obtain ⟨rfl, rfl⟩ | ⟨-, rfl, rfl⟩ := ht
    · exact ⟨_, rfl, rfl, s.freeCells_eq d n hk _ _ rfl rfl⟩
    · exact ⟨_, rfl, rfl, s.takeCells_eq d n hk _ _ rfl rfl⟩
  obtain ⟨hpath, hcore, hparams, hmode, hcover, hlink, -, hport, -⟩ := State.pathStep_frame ⟨_, heq⟩
  refine ⟨?_, ?_, hport _ _ fun h => feedSide_ne_sendSide d (Prod.mk.inj h).1, fun d' hd => ?_, hmode n, hparams n, hcover n, hlink, hcore⟩
  · rw [hpath, hp']
    rfl
  · rw [heq, State.port_setPort_same, hp']
    rfl
  · rw [heq, State.path_setPort, State.path_setPath_ne _ _ (by simp [hd])]

/-- Settles O45. -/
theorem arrivalStoresOrDrops : Obligations.ArrivalStoresOrDrops := by
  rintro s side n f d p limit rfl rfl hlimit
  have hlim : (s.params n).limit side = limit := by
    rw [hlimit]
    cases side <;> rfl
  have hup : ∀ {t : State}, (s.port side n).up = true → (if f.length < 64 then s.countDrop (fedDir side) n .runt 1
      else if (s.params n).limit side < f.length then s.countDrop (fedDir side) n .oversize 1
      else if fcsMatches f = false then s.countDrop (fedDir side) n .badFcs 1
      else if numAt f 12 2 = 0x8808 then
        if numAt f 14 2 = 0x0001 then s.honourPause side n (numAt f 16 2) else s
      else s.store (fedDir side) n f) = t → exec (.frameArrival side n f) s = .next t :=
    fun hu ht => congrArg Host.Outcome.next ((if_pos hu).trans ht)
  refine ⟨fun hu => congrArg Host.Outcome.next (if_neg (by simp [hu])), fun hu hshort => hup hu (if_pos hshort), fun hu hlong => ?_⟩
  have hrunt : ¬ f.length < 64 := Nat.not_lt.2 hlong
  rw [hlim] at hup
  refine ⟨fun hbig => hup hu (by rw [if_neg hrunt, if_pos hbig]), fun hfits hfcs => ?_, fun hfits hfcs => ?_⟩
  · exact hup hu (by rw [if_neg hrunt, if_neg (Nat.not_lt.2 hfits), if_pos hfcs])
  · have hgood : ∀ {t : State}, (if numAt f 12 2 = 0x8808 then
        if numAt f 14 2 = 0x0001 then s.honourPause side n (numAt f 16 2) else s
        else s.store (fedDir side) n f) = t → exec (.frameArrival side n f) s = .next t :=
      fun ht => hup hu (by rw [if_neg hrunt, if_neg (Nat.not_lt.2 hfits), if_neg (by simp [hfcs])]; exact ht)
    refine ⟨fun hmac hop => hgood (by rw [if_pos hmac, if_neg hop]), fun hmac hop hq => hgood ?_, fun hmac hop hq => hgood ?_,
      fun hmac hfull => hgood ?_, fun hmac hroom => hgood ?_⟩
    · rw [if_pos hmac, if_pos hop]
      exact if_neg (by omega)
    · rw [if_pos hmac, if_pos hop]
      refine (if_pos hq).trans ?_
      rcases hp : (s.port side n).pausedUntil with _ | t
      · rfl
      · simp [State.endPause]
    · rw [if_neg hmac]
      exact if_pos hfull
    · rw [if_neg hmac]
      exact if_neg (Nat.not_lt.2 hroom)

/-- Settles O46. -/
theorem pauseFramesAndDeadlines : Obligations.PauseFramesAndDeadlines := by
  refine ⟨?_, ?_, fun s side n => ⟨fun h => ?_, fun due h => ?_⟩⟩
  · rintro s side n p d rfl rfl
    refine ⟨fun h => congrArg Host.Outcome.next ?_, fun k rest hask hup hsend => ?_⟩
    · unfold State.sendPause
      dsimp only
      split
      · rfl
      next hask =>
        refine if_neg fun ⟨hup, hsend⟩ => ?_
        obtain h | h | h := h
        · simp [h] at hask
        · simp [h] at hup
        · simp [h] at hsend
    · have hquanta : s.pauseQuanta (fedDir side) n k = if k = .stop then ((s.params n).buf (fedDir side)).quanta else 0 := by
        cases k <;> rfl
      have hsent : s.sendPause side n = (s.setPort side n { s.port side n with
          pauseAsked := rest, lineOut := pauseFrame (s.pauseQuanta (fedDir side) n k) }).restartResend (fedDir side) n := by
        simp only [State.sendPause, hask, hup, hsend]
        exact if_pos ⟨trivial, trivial⟩
      refine ⟨_, rfl, ?_⟩
      rw [hsent, State.restartResend_eq, hquanta]
      refine ⟨by simp [pauseFrame, zeros], by simp, fun m hm => by simp [hm], ?_⟩
      exact ⟨rfl, rfl, rfl, rfl, rfl, rfl, rfl, rfl, rfl, rfl, rfl⟩
  · rintro s d n p rfl
    refine ⟨fun h => congrArg Host.Outcome.next ?_, fun due hdue hp => ⟨_, rfl, ?_⟩⟩
    · unfold State.resendPause
      dsimp only
      split
      next t ht =>
        obtain h | h := h
        · simp [h] at ht
        · exact if_neg (by simp [h])
      next => rfl
    · have hresend : s.resendPause d n = ((s.withNow (max s.now due)).restartResend d n).askPause (feedSide d) n .stop := by
        simp [State.resendPause, hdue, hp]
      rw [hresend, State.askPause_eq, State.restartResend_eq]
      refine ⟨by simp, by simp [hp], by simp [Port.asked]⟩
  · exact congrArg Host.Outcome.next (by simp [h])
  · refine congrArg Host.Outcome.next ?_
    rw [h]
    rfl

/-- Settles O47. -/
theorem headsAreTransmitted : Obligations.HeadsAreTransmitted := by
  rintro s d n p rfl
  refine ⟨fun hq => ⟨?_, ?_⟩, fun e rest wire hq hwire => ?_⟩
  · exact congrArg Host.Outcome.next (by simp [State.startTransmit, hq])
  · exact congrArg Host.Outcome.next (by simp [State.endTransmit, hq])
  · have hw : wireFrame e = wire := by
      rw [hwire]
      rcases hv : e.verdict <;> simp [wireFrame, hv, withFcs]
    have hstart : s.startTransmit d n = if e.state = .done ∧ (s.port (sendSide d) n).takes then
        s.setPort (sendSide d) n { s.port (sendSide d) n with sending := true, lineOut := wire } else s := by
      simp only [State.startTransmit, hq, hw]
    have htakes : (s.port (sendSide d) n).takes = true ↔ (s.port (sendSide d) n).up = true ∧ (s.port (sendSide d) n).pausedUntil = none
        ∧ (s.port (sendSide d) n).sending = false ∧ (s.port (sendSide d) n).pauseAsked = [] := by
      simp [Port.takes, and_assoc]
    refine ⟨fun h => congrArg Host.Outcome.next ?_, fun hdone hup hpaused hsend hask => congrArg Host.Outcome.next ?_,
      fun h => congrArg Host.Outcome.next ?_, fun hdone hsend s1 s2 c hc hs1 hs2 => congrArg Host.Outcome.next ?_⟩
    · rw [hstart]
      refine if_neg fun ⟨hdone, ht⟩ => ?_
      obtain ⟨hup, hpaused, hsend, hask⟩ := htakes.1 ht
      simp [hdone, hup, hpaused, hsend, hask] at h
    · rw [hstart, if_pos ⟨hdone, htakes.2 ⟨hup, hpaused, hsend, hask⟩⟩]
    · simp only [State.endTransmit, hq]
      refine if_neg fun ⟨hdone, hsend⟩ => ?_
      simp [hdone, hsend] at h
    · have hsent : (s.path d n).counters.sent e = c := by rw [hc, ← hw]; rfl
      have hcount : s1.countFrame e = s2 := by
        rw [hs2]
        rcases ha : e.assoc with _ | a <;> simp [State.countFrame, ha, sat48, Config.max48]
      simp only [State.endTransmit, hq]
      rw [if_pos ⟨hdone, hsend⟩, State.path_setPort, hsent, ← hs1, hcount]

/-- Settles O58: the entries of a hold, which are none of them DROPPED already, are dropped in place. -/
theorem holdsExpire : Obligations.HoldsExpire := by
  rintro s d a i r q hi rfl rfl
  have hexec : exec i s = .next (s.expireHold d a) := by
    rw [hi]
    cases d <;> rfl
  refine ⟨fun hnone => ?_, fun e st due hfind hstate s1 hs1 => ?_⟩
  · rw [hexec, State.expireHold, holdTimesOf_eq_none hnone]
  · obtain ⟨p, hstep, hfree, -, hq, hcounters⟩ := (s.withNow (max s.now due)).dropEntries_spec d (s.record a).link (Entry.isHeldOf a)
      .holdExpired
    obtain ⟨hpath, ⟨hrecords, -⟩, -⟩ := State.pathStep_frame hstep
    simp only [Entry.isHeldOf_and_live] at hfree hq hcounters
    subst hs1
    refine ⟨?_, hrecords, ?_, ?_, ?_⟩
    · rw [hexec, State.expireHold, holdTimesOf_of_find hfind hstate]
    · rw [State.path_notify, hpath, hq]
      rfl
    · rw [State.path_notify, hpath, hcounters]
      rfl
    · rw [State.path_notify, hpath, hfree]
      rfl

end Sys2Proof.Machine
end

section
/-! SUPPORT. Entries dropped in place, what the heads at the end of a change keep, and the ends of keys and records (R84, R87, R113, R133,
R136, R137). -/

namespace Sys2Proof.Machine

/-! ### Entries dropped in place (R113) -/

theorem State.sameCore.trans {s t u : State} (h : s.sameCore t) (h' : t.sameCore u) : s.sameCore u := by
  obtain ⟨h1, h2, h3, h4, h5, h6, h7, h8, h9, h10, h11⟩ := h
  obtain ⟨g1, g2, g3, g4, g5, g6, g7, g8, g9, g10, g11⟩ := h'
  exact ⟨g1.trans h1, g2.trans h2, g3.trans h3, g4.trans h4, g5.trans h5, g6.trans h6, g7.trans h7, g8.trans h8, g9.trans h9,
    g10.trans h10, g11.trans h11⟩

theorem State.sameCore.refl (s : State) : s.sameCore s := ⟨rfl, rfl, rfl, rfl, rfl, rfl, rfl, rfl, rfl, rfl, rfl⟩

/-- R113: chosen entries none of which is DROPPED already: their states and cells, their count, and the cells they give back. -/
theorem State.dropEntries_of_live (s : State) (d : Dir) (n : LinkId) {chosen : Entry → Bool} (why : Reason)
    (hlive : ∀ e, chosen e = true → e.isDropped = false) :
    ((s.dropEntries d n chosen why).path d n).queue = (s.path d n).queue.map (fun e => if chosen e then e.drop why else e)
      ∧ ((s.dropEntries d n chosen why).path d n).counters
        = (s.path d n).counters.addDiscard why ((s.path d n).queue.filter chosen).length
      ∧ ((s.dropEntries d n chosen why).path d n).free = (s.path d n).free + (((s.path d n).queue.filter chosen).map Entry.cells).sum
      ∧ ((s.dropEntries d n chosen why).path d n).stored = (s.path d n).stored
      ∧ s.sameCore (s.dropEntries d n chosen why)
      ∧ ∀ d' m, (d', m) ≠ (d, n) → (s.dropEntries d n chosen why).path d' m = s.path d' m := by
  have hpick : ∀ e, (chosen e && !e.isDropped) = chosen e := fun e => by
    rcases h : chosen e
    · rfl
    · simp [hlive e h]
  obtain ⟨p, hstep, hfree, hstored, hq, hcounters⟩ := s.dropEntries_spec d n chosen why
  obtain ⟨hpath, hcore, -, -, -, -, hother, -⟩ := State.pathStep_frame hstep
  simp only [hpick] at hfree hq hcounters
  rw [hpath]
  exact ⟨hq, hcounters, hfree, hstored, hcore, hother⟩

theorem State.port_up_dropEntries (s : State) (d : Dir) (n : LinkId) (chosen : Entry → Bool) (why : Reason) (side : Side) (m : LinkId) :
    ((s.dropEntries d n chosen why).port side m).up = (s.port side m).up := by
  obtain ⟨p, hstep, -⟩ := s.dropEntries_spec d n chosen why
  obtain ⟨-, -, -, -, -, -, -, hport, ks, hfeed⟩ := State.pathStep_frame hstep
  by_cases h : (side, m) = (feedSide d, n)
  · obtain ⟨rfl, rfl⟩ := Prod.mk.inj h
    rw [hfeed]
    rfl
  · rw [hport side m h]

/-! ### What the heads at the end of a change keep (R113, R117) -/

theorem State.sameCore_dropHead {s : State} {d : Dir} {n : LinkId} {e : Entry} {rest : List Entry} (hq : (s.path d n).queue = e :: rest)
    (why : Reason) : s.sameCore (s.dropHead d n why) ∧ ∀ d' m, (d', m) ≠ (d, n) → (s.dropHead d n why).path d' m = s.path d' m := by
  obtain ⟨p, hstep, -⟩ := s.dropHead_spec d n why e rest hq
  obtain ⟨-, hcore, -, -, -, -, hother, -⟩ := State.pathStep_frame hstep
  exact ⟨hcore, hother⟩

theorem State.sameCore_popHead (s : State) (d : Dir) (n : LinkId) :
    s.sameCore (s.popHead d n) ∧ ∀ d' m, (d', m) ≠ (d, n) → (s.popHead d n).path d' m = s.path d' m :=
  ⟨⟨rfl, rfl, rfl, rfl, rfl, rfl, rfl, rfl, rfl, rfl, rfl⟩, fun _ _ h => State.path_setPath_ne _ _ h⟩

/-- R113, R117: heads only leave: what is left of the queue is its end. -/
theorem State.settleHeads_suffix (d : Dir) (n : LinkId) (k : Nat) (s : State) :
    ((State.settleHeads d n k s).path d n).queue <:+ (s.path d n).queue := by
  induction k generalizing s with
  | zero => exact List.suffix_rfl
  | succ k ih =>
    rcases hq : (s.path d n).queue with _ | ⟨x, rest⟩
    · simp [State.settleHeads, hq]
    · simp only [State.settleHeads, hq]
      split
      · refine (ih _).trans ?_
        rw [State.queue_popHead, hq]
        exact List.suffix_cons x rest
      · split
        · exact hq ▸ List.suffix_rfl
        · refine (ih _).trans ?_
          rw [(State.queue_dropHead hq .portDown).1]
          exact List.suffix_cons x rest
      · split
        · exact hq ▸ List.suffix_rfl
        next hd =>
          have hdown : (s.port (sendSide d) n).up = false := by
            rcases hx : (s.port (sendSide d) n).up
            · rfl
            · exact absurd (.inl hx) hd
          obtain rfl : d = .ingress := by
            rcases d
            · exact absurd (.inr rfl) hd
            · rfl
          obtain hsame | ⟨hrest, -⟩ := State.releaseHead_of_down hq hdown
          · rw [hsame, ← hq]
            exact ih s
          · refine (ih _).trans ?_
            rw [hrest]
            exact List.suffix_cons x rest
      · exact hq ▸ List.suffix_rfl

/-- R113, R117: unless a VERIFIED head is released at a DOWN rack port, the heads that leave change their own path and no more. -/
theorem State.settleHeads_core {d : Dir} {n : LinkId} (k : Nat) {s : State} (h : d = .egress ∨ (s.port .rack n).up = true) :
    s.sameCore (State.settleHeads d n k s)
      ∧ ∀ d' m, (d', m) ≠ (d, n) → (State.settleHeads d n k s).path d' m = s.path d' m := by
  induction k generalizing s with
  | zero => exact ⟨.refl s, fun _ _ _ => rfl⟩
  | succ k ih =>
    rcases hq : (s.path d n).queue with _ | ⟨x, rest⟩
    · simp only [State.settleHeads, hq]
      exact ⟨.refl s, fun _ _ _ => trivial⟩
    · simp only [State.settleHeads, hq]
      split
      · obtain ⟨hcore, hother⟩ := s.sameCore_popHead d n
        obtain ⟨hcore', hother'⟩ := ih (s := s.popHead d n) (by rwa [State.port_popHead])
        exact ⟨hcore.trans hcore', fun d' m hne => (hother' d' m hne).trans (hother d' m hne)⟩
      · split
        · exact ⟨.refl s, fun _ _ _ => rfl⟩
        next hdown =>
          obtain ⟨hcore, hother⟩ := State.sameCore_dropHead hq .portDown
          have hd : d = .egress := by
            obtain hd | hup := h
            · exact hd
            · rcases d
              · rfl
              · exact absurd hup hdown
          obtain ⟨hcore', hother'⟩ := ih (s := s.dropHead d n .portDown) (.inl hd)
          exact ⟨hcore.trans hcore', fun d' m hne => (hother' d' m hne).trans (hother d' m hne)⟩
      · have hstay : (s.port (sendSide d) n).up = true ∨ d = .egress := by
          obtain hd | hup := h
          · exact .inr hd
          · rcases d
            · exact .inr rfl
            · exact .inl hup
        rw [if_pos hstay]
        exact ⟨.refl s, fun _ _ _ => rfl⟩
      · exact ⟨.refl s, fun _ _ _ => rfl⟩

/-- The parts of the machine that no head touches. -/
def State.tables (s : State) : BankUnit × Vector RangeRule 32 × FlowTable × Vector Lane 8 × Device × Provisioning :=
  (s.bank, s.rules, s.flow, s.lanes, s.device, s.prov)

theorem State.sameCore.tables {s t : State} (h : s.sameCore t) : t.tables = s.tables := by
  obtain ⟨-, h2, h3, h4, h5, -, h7, h8, -⟩ := h
  simp only [State.tables, h2, h3, h4, h5, h7, h8]

theorem State.tables_freeCells (s : State) (d : Dir) (n : LinkId) (k : Nat) : (s.freeCells d n k).tables = s.tables := by
  obtain ⟨p, hstep, -⟩ := s.freeCells_spec d n k
  exact (State.pathStep_frame hstep).2.1.tables

theorem State.tables_dropHead (s : State) (d : Dir) (n : LinkId) (why : Reason) : (s.dropHead d n why).tables = s.tables := by
  rcases hq : (s.path d n).queue with _ | ⟨e, rest⟩
  · simp [State.dropHead, hq]
  · exact (State.sameCore_dropHead hq why).1.tables

theorem State.tables_requestRollover (s : State) (a : AssocId) (p : Phase) : (s.requestRollover a p).tables = s.tables := by
  unfold State.requestRollover State.rollIngress
  dsimp only
  split
  · split
    · split
      · split <;> rfl
      · rfl
    · rfl
  · rfl

theorem State.tables_deliver (s : State) (n : LinkId) (a : AssocId) (e : Entry) : (s.deliver n a e).tables = s.tables := by
  unfold State.deliver
  split
  · exact s.tables_dropHead _ _ _
  · split
    · exact State.tables_freeCells _ _ _ _
    · split
      · rfl
      · exact s.tables_dropHead _ _ _

theorem State.tables_releaseHead (s : State) (n : LinkId) : (s.releaseHead n).tables = s.tables := by
  unfold State.releaseHead
  split
  · rfl
  · split
    · split
      · split
        · rfl
        · split
          · exact s.tables_dropHead _ _ _
          · exact (State.tables_deliver _ _ _ _).trans (State.tables_requestRollover _ _ _)
      · rfl
    · rfl

theorem State.tables_settleHeads (d : Dir) (n : LinkId) (k : Nat) (s : State) : (State.settleHeads d n k s).tables = s.tables := by
  induction k generalizing s with
  | zero => rfl
  | succ k ih =>
    unfold State.settleHeads
    split
    · rfl
    · split
      · exact (ih _).trans (s.sameCore_popHead d n).1.tables
      · split
        · rfl
        · exact (ih _).trans (s.tables_dropHead _ _ _)
      · split
        · rfl
        · exact (ih _).trans (s.tables_releaseHead n)
      · rfl

/-! ### Ends of keys (R84, R87, R136) -/

theorem Record.oldSpent_iff (r : Record) : r.oldSpent = true ↔ ∃ k, r.old = some k ∧ k.state = .retiring ∧ k.inFlight = 0 := by
  rcases h : r.old with _ | k <;> simp [Record.oldSpent, h, slotIs, slotInFlight]

theorem Record.drained_iff (r : Record) : r.drained = true ↔ slotInFlight r.cur + slotInFlight r.nxt + slotInFlight r.old = 0 := by
  simp [Record.drained]

theorem State.destroyRetired_of_kept {s : State} {a : AssocId} (h : (s.record a).oldSpent = false) : s.destroyRetired a = s := by
  unfold State.destroyRetired
  dsimp only
  split
  · exact if_neg (by simp [h])
  · rfl

theorem State.destroyRetired_of_spent {s : State} {a : AssocId} {k : Key} (hk : (s.record a).old = some k)
    (h : (s.record a).oldSpent = true) : s.destroyRetired a
      = ((s.dropEntries .ingress (s.record a).link (Entry.isVerifiedOf a k.phase) .late).setRecord a
          { s.record a with old := none }).deferredRollover a := by
  simp only [State.destroyRetired, hk, h, if_true]
  rfl

theorem State.deferredRollover_of_not {s : State} {a : AssocId} (h : ¬ ((s.record a).wanted = true ∧ (s.record a).canRoll = true)) :
    s.deferredRollover a = s := if_neg h

/-! ### Emptied records (R24, R31, R133) -/

theorem Entry.isVerifiedOfAny_iff {a : AssocId} {e : Entry} : e.isVerifiedOfAny a = true ↔ e.state = .verified ∧ e.assoc = some a := by
  simp [Entry.isVerifiedOfAny]

theorem Entry.not_isDropped_of_isVerifiedOfAny {a : AssocId} {e : Entry} (h : e.isVerifiedOfAny a = true) : e.isDropped = false := by
  simp [Entry.isDropped, (Entry.isVerifiedOfAny_iff.1 h).1]

theorem Entry.assoc_unname_ne (a : AssocId) (e : Entry) : (e.unname a).assoc ≠ some a := by
  unfold Entry.unname
  split
  · simp
  next h => exact h

theorem State.record_emptyRecord_same (s : State) (a : AssocId) (after : RecState) (why : Reason) :
    (s.emptyRecord a after why).record a = { Record.blank (s.record a).generation with state := after } :=
  State.record_setRecord_same _ a _

theorem State.record_emptyRecord_ne (s : State) {a a' : AssocId} (after : RecState) (why : Reason) (h : a' ≠ a) :
    (s.emptyRecord a after why).record a' = s.record a' :=
  (State.record_setRecord_ne _ _ h).trans (s.record_dropEntries _ _ _ _ _)

/-- R24: no entry names an emptied record any more. -/
theorem State.assoc_emptyRecord (s : State) (a : AssocId) (after : RecState) (why : Reason) (d : Dir) (n : LinkId) {e : Entry}
    (he : e ∈ ((s.emptyRecord a after why).path d n).queue) : e.assoc ≠ some a := by
  unfold State.emptyRecord at he
  dsimp only at he
  rw [State.path_unname] at he
  obtain ⟨x, -, rfl⟩ := List.mem_map.1 he
  exact x.assoc_unname_ne a

theorem State.path_emptyRecord (s : State) (a : AssocId) (after : RecState) (why : Reason) (d : Dir) (n : LinkId) :
    (s.emptyRecord a after why).path d n
      = ((s.dropEntries .ingress (s.record a).link (Entry.isVerifiedOfAny a) why).path d n).unname a := by
  unfold State.emptyRecord
  dsimp only
  rw [State.path_unname, State.path_setRecord]

/-- What an emptied record leaves outside the records and the links. -/
theorem State.core_emptyRecord (s : State) (a : AssocId) (after : RecState) (why : Reason) :
    (s.emptyRecord a after why).bank = s.bank ∧ (s.emptyRecord a after why).control = s.control
      ∧ (s.emptyRecord a after why).tables = s.tables
      ∧ ∀ side m, ((s.emptyRecord a after why).port side m).up = (s.port side m).up := by
  obtain ⟨p, hstep, -⟩ := s.dropEntries_spec .ingress (s.record a).link (Entry.isVerifiedOfAny a) why
  have hcore := (State.pathStep_frame hstep).2.1
  have htables := hcore.tables
  obtain ⟨-, hbank, -, -, -, -, -, -, hcontrol, -⟩ := hcore
  refine ⟨hbank, hcontrol, htables, fun side m => ?_⟩
  rw [← s.port_up_dropEntries .ingress (s.record a).link (Entry.isVerifiedOfAny a) why side m]
  unfold State.emptyRecord State.unname
  cases side <;> simp [State.port, State.link, State.withLinks, State.setRecord, Link.port]

end Sys2Proof.Machine
end

section
/-! Certificates: the ends of keys and records. -/

namespace Sys2Proof.Machine

/-- Settles O57. -/
theorem keysAndRecordsEnd : Obligations.KeysAndRecordsEnd := by
  refine ⟨?_, ?_, fun s a after why => ?_⟩
  · rintro s a r rfl
    refine ⟨rfl, fun k hk hs hf => ?_, fun h => ?_, fun hs hf => ?_, fun h => ?_⟩
    · have hspent : (s.record a).oldSpent = true := (Record.oldSpent_iff _).2 ⟨k, hk, hs, hf⟩
      exact congrArg (fun u => Host.Outcome.next (State.finish u _ _)) (State.destroyRetired_of_spent hk hspent)
    · have hkept : (s.record a).oldSpent = false := by
        rw [Bool.eq_false_iff, ne_eq, Record.oldSpent_iff]
        rintro ⟨k, hk, hs, hf⟩
        obtain h | h := h k hk
        · exact h hs
        · exact h hf
      exact congrArg (fun u => Host.Outcome.next (State.finish u _ _)) (State.destroyRetired_of_kept hkept)
    · exact congrArg (fun u => Host.Outcome.next (State.finish u _ _)) (if_pos ⟨hs, (Record.drained_iff _).2 hf⟩)
    · refine congrArg (fun u => Host.Outcome.next (State.finish u _ _)) (if_neg ?_)
      rintro ⟨hs, hf⟩
      obtain h | h := h
      · exact h hs
      · exact h ((Record.drained_iff _).1 hf)
  · rintro s a r rfl
    refine ⟨fun hd => congrArg Host.Outcome.next (if_neg (by simp [hd])), fun hd => congrArg Host.Outcome.next (if_neg (by simp [hd])),
      fun h => State.deferredRollover_of_not fun ⟨hw, hroll⟩ => ?_, fun c x hw hs hc hx hready hold => ?_⟩
    · obtain ⟨hs, -, hnxt, hold⟩ := (Record.canRoll_iff _).1 hroll
      obtain ⟨x, hx, hready⟩ := slotIs_iff.1 hnxt
      obtain h | ⟨h1, h2⟩ | h | h := h
      · simp [hw] at h
      · obtain hs | hs := hs
        · exact h1 hs
        · exact h2 hs
      · exact h hold
      · exact h x hx hready
    · have hroll : (s.record a).canRoll = true := (Record.canRoll_iff _).2 ⟨hs, by simp [hc], slotIs_iff.2 ⟨x, hx, hready⟩, hold⟩
      refine ⟨fun hd => congrArg Host.Outcome.next ?_, fun hd => congrArg Host.Outcome.next ?_⟩
      · rw [if_pos hd, State.deferredRollover, if_pos ⟨hw, hroll⟩, hd]
      · have hdef : s.deferredRollover a = s.rollIngress a := by rw [State.deferredRollover, if_pos ⟨hw, hroll⟩, hd]
        rw [if_pos hd, hdef]
        exact congrArg State.pump (s.rollIngress_eq a hc hx)
  · obtain ⟨hq, hcounters, hfree, -, -, hother⟩ := s.dropEntries_of_live .ingress (s.record a).link why
      fun e => Entry.not_isDropped_of_isVerifiedOfAny (a := a) (e := e)
    refine ⟨s.record_emptyRecord_same a after why, fun a' => s.record_emptyRecord_ne after why,
      fun d n e he => s.assoc_emptyRecord a after why d n he, ?_⟩
    rintro n p verified rfl rfl rfl
    refine ⟨?_, ?_, ?_, fun d m hne => ?_⟩
    · rw [State.path_emptyRecord, Path.unname, hq, List.map_map]
      refine List.map_congr_left fun e _ => ?_
      by_cases ha : e.assoc = some a
      · by_cases hs : e.state = .verified
        · simp [Entry.isVerifiedOfAny, ha, hs, Entry.unname, Entry.drop]
        · simp [Entry.isVerifiedOfAny, ha, hs, Entry.unname]
      · simp [Entry.isVerifiedOfAny, ha, Entry.unname]
    · rw [State.path_emptyRecord, List.countP_eq_length_filter]
      exact hcounters
    · rw [State.path_emptyRecord]
      exact hfree
    · rw [State.path_emptyRecord, hother d m hne]
      rfl

end Sys2Proof.Machine
end

section
/-! SUPPORT. What the end of a change leaves, and the record boundaries of a purge (R53 to R59). -/

namespace Sys2Proof.Machine

/-! ### The end of a change (R117, R169) -/

/-- R117, R169: unless a VERIFIED head is released, the end of a change leaves the records and the bank operation unit, and the control
unit makes its transmitter's choice. -/
theorem State.finish_core {s : State} {d : Dir} {n : LinkId} (h : d = .egress ∨ (s.port .rack n).up = true) :
    (s.finish d n).records = s.records ∧ (s.finish d n).bank = s.bank ∧ (s.finish d n).control = s.control.pump := by
  obtain ⟨⟨hrecords, hbank, -, -, -, -, -, -, hcontrol, -⟩, -⟩ := State.settleHeads_core (s.path d n).queue.length h
  exact ⟨hrecords, hbank, congrArg Control.pump hcontrol⟩

theorem State.queue_finish_suffix (s : State) (d : Dir) (n : LinkId) :
    ((s.finish d n).path d n).queue <:+ (s.path d n).queue := State.settleHeads_suffix d n _ s

theorem State.mem_queue_finish {s : State} {d : Dir} {n : LinkId} (h : d = .egress ∨ (s.port .rack n).up = true) (d' : Dir) (m : LinkId)
    {e : Entry} (he : e ∈ ((s.finish d n).path d' m).queue) : e ∈ (s.path d' m).queue := by
  by_cases hne : (d', m) = (d, n)
  · obtain ⟨rfl, rfl⟩ := Prod.mk.inj hne
    exact (s.queue_finish_suffix _ _).subset he
  · obtain ⟨-, hother⟩ := State.settleHeads_core (s.path d n).queue.length h
    exact congrArg Path.queue (hother d' m hne) ▸ he

theorem State.record_of_records {s t : State} (h : t.records = s.records) (a : AssocId) : t.record a = s.record a := by
  rw [State.record, h]; rfl

/-! ### Record boundaries (R53, R56, R57, R59) -/

theorem Control.answer_pump_replied {c : Control} {q : Request} {rest : List Request} (h : c.requests = q :: rest) (st : Status)
    (fl : Flags) (body : Bytes) : (c.answer st { fl with repeatIgnored := c.repeatAsked } 0 body).pump = c.replied q st fl body := by
  rw [Control.repeatAsked, h]; rfl

/-- What a record boundary leaves. -/
theorem State.boundary_frame (s : State) (p : Purge) :
    (s.boundary p).records = s.records ∧ (s.boundary p).links = s.links := by
  unfold State.boundary
  dsimp only
  split <;> exact ⟨rfl, rfl⟩

theorem State.boundary_onward {s : State} {p : Purge} (hstop : s.bank.stop = .none) (h : p.cursor < p.last) :
    s.boundary p = s.withBank { s.bank with purge := some { p with cursor := p.cursor + 1, visiting := false } } := by
  have hlast : decide (p.last < p.cursor + 1) = false := by simp; omega
  simp only [State.boundary, hstop, hlast]

theorem State.boundary_done {s : State} {p : Purge} (hstop : s.bank.stop = .none) (h : p.last ≤ p.cursor) :
    s.boundary p = s.endPurge { p with cursor := p.cursor + 1, visiting := false } false := by
  have hlast : decide (p.last < p.cursor + 1) = true := by simp; omega
  simp only [State.boundary, hstop, hlast]

theorem State.boundary_suspended {s : State} {p : Purge} (hstop : s.bank.stop = .suspend) (h : p.cursor < p.last) :
    s.boundary p
      = (s.withBank { s.bank with purge := some { p with cursor := p.cursor + 1, visiting := false, active := false },
                                  stop := .none }).answerOnce .ok Flags.none [] := by
  have hlast : decide (p.last < p.cursor + 1) = false := by simp; omega
  simp only [State.boundary, hstop, hlast]

theorem State.boundary_suspended_late {s : State} {p : Purge} (hstop : s.bank.stop = .suspend) (h : p.last ≤ p.cursor) :
    s.boundary p = (s.endPurge { p with cursor := p.cursor + 1, visiting := false } false).answerOnce .badState Flags.none [] := by
  have hlast : decide (p.last < p.cursor + 1) = true := by simp; omega
  simp only [State.boundary, hstop, hlast]

theorem State.boundary_cancelled {s : State} {p : Purge} (hstop : s.bank.stop = .cancel) :
    s.boundary p = (s.endPurge { p with cursor := p.cursor + 1, visiting := false } true).answerOnce .ok Flags.none [] := by
  simp only [State.boundary, hstop]
  rcases decide (p.last < p.cursor + 1) <;> rfl

/-- R53, R56: a boundary with no stop pending. -/
theorem State.boundary_of_noStop {s : State} {p p1 : Purge} (hstop : s.bank.stop = .none)
    (hp1 : p1 = { p with cursor := p.cursor + 1, visiting := false }) :
    s.boundary p = if p.cursor < p.last then s.withBank { s.bank with purge := some p1 } else s.endPurge p1 false := by
  subst hp1
  split
  next h => exact State.boundary_onward hstop h
  next h => exact State.boundary_done hstop (Nat.le_of_not_lt h)

/-! ### Purged records (R54, R55) -/

theorem State.finishPurged_of_drained {s : State} {p : Purge} {a : AssocId} (hp : s.bank.purge = some p) (hv : p.visiting = true)
    (ha : a = bankSlot p.bank p.cursor) (hstate : (s.record a).state = .purging) (hd : (s.record a).drained = true) :
    s.finishPurged
      = (s.emptyRecord a (if p.barred then .barred else .empty) .purged).boundary { p with purged := p.purged + 1 } := by
  subst ha
  simp only [State.finishPurged, hp]
  exact if_pos ⟨hv, hstate, hd⟩

theorem State.finishPurged_of_inFlight {s : State} {p : Purge} {a : AssocId} (hp : s.bank.purge = some p)
    (ha : a = bankSlot p.bank p.cursor) (hd : (s.record a).drained = false) : s.finishPurged = s := by
  subst ha
  simp only [State.finishPurged, hp]
  exact if_neg fun ⟨_, _, h⟩ => by simp [hd] at h

/-- Grace timers that stop leave the counts. -/
theorem slotInFlight_stopGrace (o : Option Key) : slotInFlight (o.map fun k => { k with graceAt := none }) = slotInFlight o := by
  cases o <;> rfl

theorem Record.not_oldSpent {r : Record} {o : Option Key} (ho : r.old = o.map fun k => { k with graceAt := none })
    (h : ∀ k, o = some k → k.state = .retiring → k.inFlight ≠ 0) : r.oldSpent = false := by
  rw [Bool.eq_false_iff, ne_eq, Record.oldSpent_iff, ho]
  rintro ⟨k, hk, hs, hf⟩
  obtain ⟨x, hx, rfl⟩ := Option.map_eq_some_iff.1 hk
  exact h x hx hs hf

/-- R113: after the held entries of a record are dropped none is left. -/
theorem Entry.isHeldOf_dropped (a : AssocId) (why : Reason) (e : Entry) : (if e.isHeldOf a then e.drop why else e).isHeldOf a = false := by
  rcases h : e.isHeldOf a
  · simpa using h
  · rfl

theorem Entry.isHeldOf_of_assoc_ne {a : AssocId} {e : Entry} (h : e.assoc ≠ some a) : e.isHeldOf a = false :=
  Bool.eq_false_iff.2 fun hh => h (Entry.isHeldOf_iff.1 hh).2

theorem State.port_up_dropHeld (s : State) (a : AssocId) (d : Dir) (n m : LinkId) (why : Reason) :
    ((s.dropEntries d n (Entry.isHeldOf a) why).port .rack m).up = (s.port .rack m).up :=
  s.port_up_dropEntries _ _ _ _ _ _

/-- R54: a record taken into a purge whose keys may not be destroyed stays PURGING while something of it is in flight; else the visit ends. -/
theorem State.storeActs_purging {s : State} {p : Purge} {a : AssocId} (hp : s.bank.purge = some p) (hv : p.visiting = true)
    (ha : a = bankSlot p.bank p.cursor) (hstate : (s.record a).state = .purging) (hold : (s.record a).oldSpent = false) :
    s.storeActs a = if (s.record a).drained = true
      then (s.emptyRecord a (if p.barred then .barred else .empty) .purged).boundary { p with purged := p.purged + 1 } else s := by
  simp only [State.storeActs, State.destroyRetired_of_kept hold, hstate]
  split
  next h => exact State.finishPurged_of_drained hp hv ha hstate h
  next h => exact State.finishPurged_of_inFlight hp ha (by simpa using h)

/-- R113: the state after the held entries of a record were dropped, for one of them. -/
theorem State.not_isHeldOf_dropEntries {s : State} {a : AssocId} {d : Dir} {n : LinkId} {why : Reason} {e : Entry}
    (he : e ∈ ((s.dropEntries d n (Entry.isHeldOf a) why).path d n).queue) : e.isHeldOf a = false := by
  rw [(s.dropEntries_of_live d n why fun _ h => Entry.not_isDropped_of_isHeldOf h).1] at he
  obtain ⟨x, -, rfl⟩ := List.mem_map.1 he
  exact Entry.isHeldOf_dropped a why x

end Sys2Proof.Machine
end

section
/-! Certificates: the visits of a purge. -/

namespace Sys2Proof.Machine

/-- Settles O38. -/
theorem purgedRecordIsFinished : Obligations.PurgedRecordIsFinished := by
  rintro s p a r hp hv ha rfl hstate hflight hup p' rfl
  obtain ⟨hbank, hcontrol, -, hports⟩ := s.core_emptyRecord a (if p.barred then .barred else .empty) .purged
  have hsame := s.record_emptyRecord_same a (if p.barred then .barred else .empty) .purged
  have hothers := fun a' => s.record_emptyRecord_ne (a := a) (a' := a') (if p.barred then .barred else .empty) .purged
  have hnames := fun d n e => s.assoc_emptyRecord a (if p.barred then .barred else .empty) .purged d n (e := e)
  have hexec : exec .purgeRecordFinished s = .next
      ((((s.emptyRecord a (if p.barred then .barred else .empty) .purged).boundary { p with purged := p.purged + 1 })).finish .ingress
        (s.record a).link) := by
    rw [← State.finishPurged_of_drained hp hv ha hstate ((Record.drained_iff _).2 hflight), ha]
    refine congrArg Host.Outcome.next ?_
    simp only [State.purgeRecordFinished, hp]
  generalize s.emptyRecord a (if p.barred then .barred else .empty) .purged = u at *
  obtain ⟨hrecords, hlinks⟩ := u.boundary_frame { p with purged := p.purged + 1 }
  have hrack : ((u.boundary { p with purged := p.purged + 1 }).port .rack (s.record a).link).up = true := by
    rw [State.port, State.link, hlinks]
    exact (hports .rack _).trans hup
  obtain ⟨hfr, hfb, hfc⟩ := State.finish_core (d := .ingress) (.inr hrack)
  have hpath : ∀ d m, (u.boundary { p with purged := p.purged + 1 }).path d m = u.path d m := fun d m => by
    rw [State.path, State.link, hlinks]; rfl
  refine ⟨_, hexec, ?_, fun a' hne => ?_, fun d n e he => ?_, fun hstop hlt => ?_, fun hstop hle => ?_, fun q rest hq hstop hlt => ?_,
    fun q rest hq hstop hle => ?_, fun q rest hq hstop => ?_⟩
  · exact (State.record_of_records (hfr.trans hrecords) a).trans hsame
  · exact (State.record_of_records (hfr.trans hrecords) a').trans (hothers a' hne)
  · have := State.mem_queue_finish (d := .ingress) (.inr hrack) d n he
    rw [hpath] at this
    exact hnames d n e this
  · rw [hfb, hfc, State.boundary_onward (p := { p with purged := p.purged + 1 }) (hbank.symm ▸ hstop) hlt, ← hbank, ← hcontrol]
    exact ⟨rfl, rfl⟩
  · have hnone : u.bank.stop = .none := hbank.symm ▸ hstop
    rw [hfb, hfc, State.boundary_done (p := { p with purged := p.purged + 1 }) hnone hle, ← hbank, ← hcontrol]
    exact ⟨show ({ u.bank with purge := none, stop := .none, lastPurge := .done } : BankUnit) = _ by rw [← hnone], rfl⟩
  · rw [hfb, hfc, State.boundary_suspended (p := { p with purged := p.purged + 1 }) (hbank.symm ▸ hstop) hlt, ← hbank, ← hcontrol]
    exact ⟨rfl, Control.answer_pump_replied (hcontrol.symm ▸ hq) _ _ _⟩
  · rw [hfb, hfc, State.boundary_suspended_late (p := { p with purged := p.purged + 1 }) (hbank.symm ▸ hstop) hle, ← hbank, ← hcontrol]
    exact ⟨rfl, Control.answer_pump_replied (rest := rest)
      ((u.control.quiet_notify _).requests.trans ((congrArg Control.requests hcontrol).trans hq)) _ _ _⟩
  · rw [hfb, hfc, State.boundary_cancelled (p := { p with purged := p.purged + 1 }) (hbank.symm ▸ hstop), ← hbank, ← hcontrol]
    exact ⟨rfl, Control.answer_pump_replied (rest := rest)
      ((u.control.quiet_notify _).requests.trans ((congrArg Control.requests hcontrol).trans hq)) _ _ _⟩

/-- Settles O37. -/
theorem purgeVisitsARecord : Obligations.PurgeVisitsARecord := by
  refine ⟨fun s h => congrArg Host.Outcome.next ?_, ?_, ?_⟩
  · unfold State.purgeVisit
    split
    next p hp =>
      refine if_neg ?_
      rintro ⟨hact, hv⟩
      obtain h | h := h p hp
      · simp [h] at hact
      · simp [h] at hv
    next => rfl
  · rintro s p r hp rfl hact hv hstop hpass p' rfl
    refine congrArg Host.Outcome.next ?_
    simp only [State.purgeVisit, hp]
    rw [if_pos ⟨hact, hv⟩]
    by_cases hkeyless : (s.record (bankSlot p.bank p.cursor)).state = .empty ∨ (s.record (bankSlot p.bank p.cursor)).state = .barred
    · rw [if_pos hkeyless, State.boundary_of_noStop (p1 := { p with cursor := p.cursor + 1 }) hstop (by rw [← hv]), if_pos hkeyless]
      split <;> rfl
    · obtain ⟨hpin, hskip⟩ : (s.record (bankSlot p.bank p.cursor)).params.pinned = true ∧ p.skipPinned = true := by
        obtain h | h | h := hpass
        · exact absurd (.inl h) hkeyless
        · exact absurd (.inr h) hkeyless
        · exact h
      rw [if_neg hkeyless, if_pos ⟨hpin, hskip⟩, State.boundary_of_noStop (p := { p with skipped := p.skipped + 1 })
        (p1 := { p with cursor := p.cursor + 1, skipped := p.skipped + 1 }) hstop (by rw [← hv]), if_neg hkeyless]
      split <;> rfl
  · rintro s p a r hp hact hv hstop ha hr hempty hbarred hpin hold b s2 s3 s4 p' rfl hs2 hs3 hs4 rfl
    obtain ⟨hq, hcounters, hfree, hstored, hcore, hother⟩ := s.dropEntries_of_live r.dir r.link .purged
      fun e => Entry.not_isDropped_of_isHeldOf (a := a) (e := e)
    rw [← hs2] at hq hcounters hfree hstored hcore hother
    have hups : ∀ m, (s2.port .rack m).up = (s.port .rack m).up := fun m => hs2 ▸ s.port_up_dropHeld a r.dir r.link m .purged
    have hheld : ∀ e ∈ (s2.path r.dir r.link).queue, e.isHeldOf a = false := fun e he => State.not_isHeldOf_dropEntries (hs2 ▸ he)
    obtain ⟨hrecords, hbank, -, -, -, -, -, -, hcontrol, -⟩ := hcore
    refine ⟨⟨hq, hcounters, hfree, hstored, hrecords, hcontrol, hother⟩, ?_⟩
    have hpurge3 : s3.bank.purge = some { p with visiting := true } := by rw [hs3]; rfl
    have hrec3 : s3.record a = { r with state := .purging, wanted := false, old := r.old.map fun k => { k with graceAt := none } } := by
      rw [hs3, State.record_withBank, State.record_setRecord_same]
    have hothers3 : ∀ a', a' ≠ a → s3.record a' = s.record a' := fun a' hne => by
      rw [hs3, State.record_withBank, State.record_setRecord_ne _ _ hne]
      exact State.record_of_records hrecords a'
    have hdrained : (s3.record a).drained = true ↔ slotInFlight r.cur + slotInFlight r.nxt + slotInFlight r.old = 0 := by
      rw [Record.drained_iff, hrec3, slotInFlight_stopGrace]
    have hacts : s3.storeActs a = if slotInFlight r.cur + slotInFlight r.nxt + slotInFlight r.old ≠ 0 then s3
        else if p.cursor < p.last then s4.withBank { s.bank with purge := some { p with cursor := p.cursor + 1, purged := p.purged + 1 } }
        else (s4.withBank { s.bank with purge := none, stop := .none, lastPurge := .done }).notify
          (.purgeDone false { p with cursor := p.cursor + 1, purged := p.purged + 1 }) := by
      have hbank4 : s4.bank = s3.bank := hs4 ▸ (s3.core_emptyRecord a _ .purged).1
      rw [State.storeActs_purging hpurge3 rfl ha (by rw [hrec3]) (Record.not_oldSpent (by rw [hrec3]) hold)]
      by_cases hflight : slotInFlight r.cur + slotInFlight r.nxt + slotInFlight r.old = 0
      · rw [if_pos (hdrained.2 hflight), if_neg (not_not.2 hflight), ← hs4,
          State.boundary_of_noStop (p := { p with visiting := true, purged := p.purged + 1 })
            (p1 := { p with cursor := p.cursor + 1, purged := p.purged + 1 }) (by rw [hbank4, hs3]; exact hstop) (by rw [← hv])]
        refine if_congr Iff.rfl ?_ ?_
        · rw [hbank4, hs3]; rfl
        · rw [State.endPurge, hbank4, hs3]; rfl
      · rw [if_neg (mt hdrained.1 hflight), if_pos hflight]
    have hexec : exec .purgeVisit s = .next ((s3.storeActs a).finish r.dir r.link) := by
      refine congrArg Host.Outcome.next ?_
      simp only [State.purgeVisit, hp]
      rw [if_pos ⟨hact, hv⟩, ← ha, ← hr, if_neg (by rintro (h | h) <;> contradiction), if_neg hpin, State.purgeTake, ← ha]
      dsimp only
      rw [← hr, ← hs2, hs3, ← hbank]
      rfl
    have hup3 : (s3.port .rack r.link).up = (s.port .rack r.link).up := hs3 ▸ hups r.link
    have hheld3 : ∀ e ∈ (s3.path r.dir r.link).queue, e.isHeldOf a = false := hs3 ▸ hheld
    rw [hexec, hacts]
    refine ⟨rfl, fun t ht => ?_⟩
    obtain rfl := Host.Outcome.next.inj ht
    by_cases hflight : slotInFlight r.cur + slotInFlight r.nxt + slotInFlight r.old = 0
    · obtain ⟨hbank4, hcontrol4, -, hports4⟩ := s3.core_emptyRecord a (if p.barred then .barred else .empty) .purged
      have hsame4 := s3.record_emptyRecord_same a (if p.barred then .barred else .empty) .purged
      have hne4 := fun a' => s3.record_emptyRecord_ne (a := a) (a' := a') (if p.barred then .barred else .empty) .purged
      have hnames4 := fun d n e => s3.assoc_emptyRecord a (if p.barred then .barred else .empty) .purged d n (e := e)
      rw [← hs4] at hbank4 hcontrol4 hports4 hsame4 hne4 hnames4
      rw [if_neg (not_not.2 hflight)]
      have hcontrol3 : s3.control = s.control := hs3 ▸ hcontrol
      have hgen : (s3.record a).generation = r.generation := by rw [hrec3]
      generalize hu : (if p.cursor < p.last then _ else _) = u
      have hrecords4 : u.records = s4.records := by rw [← hu]; split <;> rfl
      have hlinks4 : u.links = s4.links := by rw [← hu]; split <;> rfl
      have hubank : u.bank = if p.cursor < p.last then { s.bank with purge := some { p with cursor := p.cursor + 1, purged := p.purged + 1 } }
          else { s.bank with purge := none, stop := .none, lastPurge := .done } := by
        rw [← hu]; split <;> rfl
      have hucontrol : u.control = if p.cursor < p.last then s.control
          else s.control.notify (.purgeDone false { p with cursor := p.cursor + 1, purged := p.purged + 1 }) := by
        rw [← hcontrol3, ← hcontrol4, ← hu]; split <;> rfl
      have hpath : ∀ d m, u.path d m = s4.path d m := fun d m => by rw [State.path, State.link, hlinks4]; rfl
      refine ⟨fun e he => Entry.isHeldOf_of_assoc_ne
        (hnames4 _ _ e (hpath r.dir r.link ▸ (State.queue_finish_suffix _ _ _).subset he)), fun hside => ?_⟩
      have hup : (u.port .rack r.link).up = (s.port .rack r.link).up := by
        rw [State.port, State.link, hlinks4]
        exact (hports4 .rack r.link).trans hup3
      obtain ⟨hfr, hfb, hfc⟩ := State.finish_core (s := u) (hside.imp_right hup.trans)
      exact ⟨fun a' hne => ((State.record_of_records (hfr.trans hrecords4) a').trans (hne4 a' hne)).trans (hothers3 a' hne),
        fun h => absurd hflight h, fun _ => ⟨(State.record_of_records (hfr.trans hrecords4) a).trans (hgen ▸ hsame4), hfb.trans hubank,
          hfc.trans (congrArg Control.pump hucontrol)⟩⟩
    · rw [if_pos hflight]
      refine ⟨fun e he => hheld3 e ((State.queue_finish_suffix _ _ _).subset he), fun hside => ?_⟩
      obtain ⟨hfr, hfb, hfc⟩ := State.finish_core (s := s3) (hside.imp_right hup3.trans)
      refine ⟨fun a' hne => (State.record_of_records hfr a').trans (hothers3 a' hne),
        fun _ => ⟨(State.record_of_records hfr a).trans hrec3, hs3 ▸ hfb, ?_⟩, fun h => absurd h hflight⟩
      exact hfc.trans (congrArg Control.pump (hs3 ▸ hcontrol))

end Sys2Proof.Machine
end

section
/-! SUPPORT. Repeats of one item whose item acts on the control unit, and the requests on records (R33, R86, R87). -/

namespace Sys2Proof.Machine

/-- R165, R167: a repeat that asks for one item does it and replies. -/
theorem runRepeat_item {s u : State} {k : Repeatable} {q : Request} {rest : List Request} {fl : Flags} {data : Bytes} {i : Nat}
    (hb : s.canBegin q rest) (hbegin : s.beginRequest k.code false k.conditional = some (q, none)) (hrep : q.repeatCount = 0)
    (hlen : q.body.length = k.bodyLength) (hfirst : k.first q = i) (hlast : i ≤ k.lastIndex) (hcheck : k.bodyCheck q = none)
    (hitem : k.item q i s = (u, fl, data)) : s.runRepeat k = (u.answer .ok fl 1 data).pump := by
  subst hfirst
  rw [runRepeat_of_idle hb hbegin, beginRepeat_of_good hlen hlast hcheck, hrep, doItem_last (by simp), hitem, Flags.none_join,
    List.nil_append, Nat.zero_add, Nat.one_mod]

/-- R31, R167: the same for the requests on records, whose body begins with the index. -/
theorem runRecordRepeat {s u : State} {code : Byte} {cond : Bool} {len size : Nat} {item : Request → AssocId → State → State × Flags × Bytes}
    {q : Request} {rest : List Request} {a : AssocId} {fl : Flags} {data : Bytes} (hb : s.canBegin q rest)
    (hbegin : s.beginRequest code false cond = some (q, none)) (hrep : q.repeatCount = 0) (hlen : q.body.length = len)
    (hfirst : numAt q.body 0 2 = a.val) (hitem : item q a s = (u, fl, data)) :
    s.runRepeat (recordRepeat code cond len size item) = (u.answer .ok fl 1 data).pump := by
  refine runRepeat_item (i := a.val) hb hbegin hrep hlen hfirst (Nat.le_of_lt_succ a.isLt) rfl ?_
  simp only [recordRepeat, toAssoc?_val]
  exact hitem

/-- R31, R167: an item that leaves the control unit. -/
theorem runRecordRepeat_once {s u : State} {code : Byte} {cond : Bool} {len size : Nat}
    {item : Request → AssocId → State → State × Flags × Bytes} {q : Request} {rest : List Request} {a : AssocId} {fl : Flags} {data : Bytes}
    (hb : s.canBegin q rest) (hbegin : s.beginRequest code false cond = some (q, none)) (hrep : q.repeatCount = 0)
    (hlen : q.body.length = len) (hfirst : numAt q.body 0 2 = a.val) (hitem : item q a s = (u, fl, data)) (hu : u.control = s.control) :
    s.runRepeat (recordRepeat code cond len size item) = u.withControl (s.control.repliedItems fl 1 data) := by
  rw [runRecordRepeat hb hbegin hrep hlen hfirst hitem, answer_pump, hu]
  rfl

theorem numAt_assoc (a : AssocId) : numAt (u16 a.val) 0 2 = a.val := numAt_u16 (by omega)

theorem State.itemIfMeets_of_true {s : State} {q : Request} {a : AssocId} (h : (s.record a).meets q.cond q.carg = true)
    {act : State → State × Flags × Status} {u : State} {fl : Flags} {st : Status} (hact : act (s.afterTest a q.cond) = (u, fl, st)) :
    s.itemIfMeets q a act = (u, fl, [st.code]) := by
  simp [State.itemIfMeets, h, hact]

theorem Record.isOpen_iff (r : Record) : r.isOpen = true ↔ r.state = .opened ∨ r.state = .live ∨ r.state = .exhausted := by
  simp [Record.isOpen, or_assoc]

/-- What a condition's test leaves: everything but one soft flag. -/
theorem State.afterTest_frame (s : State) (a : AssocId) (cond : Byte) :
    (s.afterTest a cond).links = s.links ∧ (s.afterTest a cond).bank = s.bank ∧ (s.afterTest a cond).tables = s.tables
      ∧ ∀ a', a' ≠ a → (s.afterTest a cond).record a' = s.record a' := by
  unfold State.afterTest
  split
  · exact ⟨rfl, rfl, rfl, fun a' hne => State.record_setRecord_ne s _ hne⟩
  · exact ⟨rfl, rfl, rfl, fun _ _ => rfl⟩

/-- R87: a record that is made DRAINING, with no key that may be destroyed, is emptied in the same change when nothing of it is in flight. -/
theorem State.storeActs_draining {s : State} {a : AssocId} (hstate : (s.record a).state = .draining) (hold : (s.record a).oldSpent = false) :
    s.storeActs a = if (s.record a).drained = true then (s.emptyRecord a .empty .retired).notify (.retired a (s.record a).dir
      (s.record a).link (s.record a).generation (s.record a).frames (s.record a).tagFails) else s := by
  simp only [State.storeActs, State.destroyRetired_of_kept hold, hstate, State.drainEnd, true_and]

theorem State.tables_eq_iff {s t : State} : t.tables = s.tables
    ↔ t.bank = s.bank ∧ t.rules = s.rules ∧ t.flow = s.flow ∧ t.lanes = s.lanes ∧ t.device = s.device ∧ t.prov = s.prov := by
  simp [State.tables]

/-- R117, R164: what the heads and a reply behind them leave. -/
theorem State.settle_answer_frame (u : State) (d : Dir) (n : LinkId) (data : Bytes) :
    ((((u.settle d n).answer .ok Flags.none 1 data).pump.path d n).queue <:+ (u.path d n).queue)
      ∧ ((u.settle d n).answer .ok Flags.none 1 data).pump.tables = u.tables
      ∧ (d = .egress ∨ (u.port .rack n).up = true → ((u.settle d n).answer .ok Flags.none 1 data).pump.records = u.records
          ∧ ((u.settle d n).answer .ok Flags.none 1 data).pump.control = u.control.repliedItems Flags.none 1 data) := by
  refine ⟨State.settleHeads_suffix d n _ u, State.tables_settleHeads d n _ u, fun h => ?_⟩
  obtain ⟨⟨hrecords, -, -, -, -, -, -, -, hcontrol, -⟩, -⟩ := State.settleHeads_core (u.path d n).queue.length h
  exact ⟨hrecords, congrArg (fun c => Control.repliedItems c Flags.none 1 data) hcontrol⟩

end Sys2Proof.Machine
end

section
/-! Certificates: RETIRE and RELEASE. -/

namespace Sys2Proof.Machine

/-- Settles O31. -/
theorem retireAndRelease : Obligations.RetireAndRelease := by
  refine ⟨?_, ?_⟩
  · rintro s q rest a s1 r ⟨hb, hrun, hcode, h7⟩ hrep hbody hs1 rfl
    have hbegin := beginRequest_of_cond hb hrun hcode h7 false
    have hlen : q.body.length = 2 := by rw [hbody, u16_length]
    have hfirst : numAt q.body 0 2 = a.val := by rw [hbody, numAt_assoc]
    have hcontrol : s1.control = s.control := by rw [hs1, State.afterTest_control]
    refine ⟨fun hfalse => congrArg Host.Outcome.next ?_, fun hmeets h1 h2 h3 => congrArg Host.Outcome.next ?_, ?_⟩
    · exact runRecordRepeat_once hb hbegin hrep hlen hfirst (hs1 ▸ State.itemIfMeets_of_false hfalse _) hcontrol
    · refine runRecordRepeat_once hb hbegin hrep hlen hfirst (State.itemIfMeets_of_true hmeets ?_) hcontrol
      rw [← hs1]
      exact if_neg (by rw [Record.isOpen_iff]; rintro (h | h | h) <;> contradiction)
    · rintro hmeets hopen hold p s2 s3 rfl hs2 hs3
      generalize hr : s1.record a = r at *
      obtain ⟨hlinks1, hbank1, htables1, hne1⟩ := s.afterTest_frame a q.cond
      rw [← hs1] at hlinks1 hbank1 htables1 hne1
      have hpath1 : ∀ d m, s1.path d m = s.path d m := fun d m => by rw [State.path, State.link, hlinks1]; rfl
      obtain ⟨hq, hcounters, hfree, hstored, hcore, hother⟩ := s1.dropEntries_of_live r.dir r.link .retired
        fun e => Entry.not_isDropped_of_isHeldOf (a := a) (e := e)
      have hups : (s2.port .rack r.link).up = (s1.port .rack r.link).up := hs2 ▸ s1.port_up_dropHeld a r.dir r.link _ .retired
      have hheld : ∀ e ∈ (s2.path r.dir r.link).queue, e.isHeldOf a = false := fun e he => State.not_isHeldOf_dropEntries (hs2 ▸ he)
      rw [← hs2, hpath1] at hq hcounters hfree hstored
      rw [← hs2] at hcore hother
      have htables := hcore.tables
      obtain ⟨hrecords, hbank, -, -, -, -, -, -, hctl, -⟩ := hcore
      refine ⟨⟨hq, hcounters, hfree, hstored, hrecords, hctl.trans hcontrol, fun d n hne => (hother d n hne).trans (hpath1 d n)⟩, ?_⟩
      have hrec3 : s3.record a = { r with state := .draining, wanted := false, old := r.old.map fun k => { k with graceAt := none } } := by
        rw [hs3, State.record_setRecord_same]
      have hothers3 : ∀ a', a' ≠ a → s3.record a' = s.record a' := fun a' hne => by
        rw [hs3, State.record_setRecord_ne _ _ hne, State.record_of_records hrecords, hne1 a' hne]
      have hcontrol3 : s3.control = s.control := hs3 ▸ hctl.trans hcontrol
      have htables3 : s3.tables = s.tables := hs3 ▸ htables.trans htables1
      have hheld3 : ∀ e ∈ (s3.path r.dir r.link).queue, e.isHeldOf a = false := hs3 ▸ hheld
      have hup3 : (s3.port .rack r.link).up = (s.port .rack r.link).up := by
        rw [hs3, State.port_setRecord, hups, State.port, State.link, hlinks1]
        rfl
      have hacts : s3.storeActs a = if slotInFlight r.cur + slotInFlight r.nxt + slotInFlight r.old = 0 then
          (s3.emptyRecord a .empty .retired).notify (.retired a r.dir r.link r.generation r.frames r.tagFails) else s3 := by
        rw [State.storeActs_draining (by rw [hrec3]) (Record.not_oldSpent (by rw [hrec3]) hold), hrec3]
        refine if_congr ?_ rfl rfl
        rw [Record.drained_iff, slotInFlight_stopGrace]
      have hexec : exec .retire s = .next ((((s3.storeActs a).settle r.dir r.link).answer .ok Flags.none 1 [Status.ok.code]).pump) := by
        refine congrArg Host.Outcome.next (runRecordRepeat hb hbegin hrep hlen hfirst (State.itemIfMeets_of_true hmeets ?_))
        rw [← hs1, State.retireRecord, hr, if_pos (r.isOpen_iff.2 hopen), ← hs2, hs3]
        rfl
      rw [hexec, hacts]
      refine ⟨rfl, fun t ht => ?_⟩
      obtain rfl := Host.Outcome.next.inj ht
      by_cases hflight : slotInFlight r.cur + slotInFlight r.nxt + slotInFlight r.old = 0
      · simp only [if_pos hflight]
        obtain ⟨-, hcontrol4, htables4, hports4⟩ := s3.core_emptyRecord a .empty .retired
        have hsame4 := s3.record_emptyRecord_same a .empty .retired
        have hne4 := fun a' => s3.record_emptyRecord_ne (a := a) (a' := a') .empty .retired
        have hnames4 := fun d n e => s3.assoc_emptyRecord a .empty .retired d n (e := e)
        rw [hrec3] at hsame4
        generalize s3.emptyRecord a .empty .retired = s4 at hcontrol4 htables4 hports4 hsame4 hne4 hnames4 ⊢
        obtain ⟨hsuffix, htablesT, hside⟩ := (s4.notify (.retired a r.dir r.link r.generation r.frames r.tagFails)).settle_answer_frame
          r.dir r.link [Status.ok.code]
        refine ⟨fun e he => Entry.isHeldOf_of_assoc_ne (hnames4 _ _ e (hsuffix.subset he)), fun h => ?_, ?_⟩
        · obtain ⟨hrecordsT, hcontrolT⟩ := hside (h.imp_right (((hports4 .rack r.link).trans hup3).trans ·))
          refine ⟨(State.record_of_records hrecordsT a).trans hsame4, fun a' hne =>
            ((State.record_of_records hrecordsT a').trans (hne4 a' hne)).trans (hothers3 a' hne), hcontrolT.trans ?_⟩
          rw [← hcontrol4.trans hcontrol3]
          rfl
        · exact State.tables_eq_iff.1 ((htablesT.trans htables4).trans htables3)
      · simp only [if_neg hflight]
        obtain ⟨hsuffix, htablesT, hside⟩ := s3.settle_answer_frame r.dir r.link [Status.ok.code]
        refine ⟨fun e he => hheld3 e (hsuffix.subset he), fun h => ?_, State.tables_eq_iff.1 (htablesT.trans htables3)⟩
        obtain ⟨hrecordsT, hcontrolT⟩ := hside (h.imp_right (hup3.trans ·))
        exact ⟨(State.record_of_records hrecordsT a).trans hrec3, fun a' hne =>
          (State.record_of_records hrecordsT a').trans (hothers3 a' hne), hcontrolT.trans (by rw [hcontrol3])⟩
  · rintro s q rest a h hrep hbody
    have hitem : ∀ {u : State} {data : Bytes}, State.releaseItem q a s = (u, Flags.none, data) → u.control = s.control →
        exec .release s = .next (u.withControl (s.control.repliedItems Flags.none 1 data)) := fun hitem hu =>
      congrArg Host.Outcome.next (runRecordRepeat_once h.1 (beginRequest_of_asks h false false) hrep (by rw [hbody, u16_length])
        (by rw [hbody, numAt_assoc]) hitem hu)
    exact ⟨fun hstate => hitem (if_neg hstate) rfl, fun hstate => hitem (if_pos hstate) rfl⟩

end Sys2Proof.Machine
end

section
/-! SUPPORT. The parameters of records and links: what one handled value gives, and the flags of all of them (R19, R153, R154). -/

namespace Sys2Proof.Machine

/-! ### One parameter -/

theorem beNat_lt (bs : Bytes) : beNat bs < 256 ^ bs.length := by
  induction bs using List.reverseRecOn with
  | nil => exact Nat.one_pos
  | append_singleton bs b ih =>
    have hb : b.toNat < 256 := b.isLt
    simp only [beNat, List.foldl_append, List.foldl_cons, List.foldl_nil, List.length_append, List.length_singleton, Nat.pow_succ]
    change beNat bs * 256 + b.toNat < _
    omega

theorem numAt_lt (b : Bytes) (i w : Nat) : numAt b i w < 256 ^ w :=
  (beNat_lt _).trans_le (Nat.pow_le_pow_right (by omega) (List.length_take_le _ _))

/-- R166: a marker of OPEN-ASSOC or SET-ASSOC. -/
theorem markerSet_eq (b : Byte) : markerSet b = (b == 1 || (b != 0 && Config.strayMarker b)) := by
  by_cases h0 : b = 0
  · subst h0; rfl
  · by_cases h1 : b = 1
    · subst h1; rfl
    · rw [markerSet, if_neg h0, if_neg h1, beq_eq_false_iff_ne.2 h1, bne_iff_ne.2 h0]
      rfl

section
variable {α : Type} (applies : Bool) (marker : Byte) (prev : α) (h : Handled α)

theorem handleParam_value : (handleParam applies marker prev h).value = if applies && markerSet marker then h.value else prev := by
  unfold handleParam; split <;> rfl

theorem handleParam_clamped : (handleParam applies marker prev h).clamped = (applies && markerSet marker && h.clamped) := by
  unfold handleParam; split <;> simp_all [Handled.take]

theorem handleParam_held : (handleParam applies marker prev h).held = (applies && markerSet marker && h.held) := by
  unfold handleParam; split <;> simp_all [Handled.take]

variable (b : Bytes) (i : Nat)

theorem setParam_value : (setParam b i prev h).value = if byteAt b i == 1 then h.value else prev := by
  unfold setParam; split <;> simp_all [Handled.take]

theorem setParam_clamped : (setParam b i prev h).clamped = (byteAt b i == 1 && h.clamped) := by
  unfold setParam; split <;> simp_all [Handled.take]

theorem setParam_held : (setParam b i prev h).held = (byteAt b i == 1 && h.held) := by
  unfold setParam; split <;> simp_all [Handled.take]

theorem holdUnless_value (v : Option α) : (holdUnless prev v).value = v.getD prev := by cases v <;> rfl

theorem holdUnless_clamped (v : Option α) : (holdUnless prev v).clamped = false := by cases v <;> rfl

theorem holdUnless_held (v : Option α) : (holdUnless prev v).held = v.isNone := by cases v <;> rfl

end

/-! ### The flags of several parts -/

theorem Flags.foldl_join_clamped (l : List Flags) (f : Flags) : (l.foldl Flags.join f).clamped = (f.clamped || l.any Flags.clamped) := by
  induction l generalizing f with
  | nil => simp
  | cons g l ih => rw [List.foldl_cons, ih, List.any_cons, ← Bool.or_assoc]; rfl

theorem Flags.foldl_join_held (l : List Flags) (f : Flags) : (l.foldl Flags.join f).held = (f.held || l.any Flags.held) := by
  induction l generalizing f with
  | nil => simp
  | cons g l ih => rw [List.foldl_cons, ih, List.any_cons, ← Bool.or_assoc]; rfl

theorem Flags.foldl_join_repeatIgnored (l : List Flags) (f : Flags) :
    (l.foldl Flags.join f).repeatIgnored = (f.repeatIgnored || l.any Flags.repeatIgnored) := by
  induction l generalizing f with
  | nil => simp
  | cons g l ih => rw [List.foldl_cons, ih, List.any_cons, ← Bool.or_assoc]; rfl

/-! ### Enumerated values -/

theorem yesNo?_getD (v : Nat) (prev : Bool) : (yesNo? v).getD prev = if v = 0 then false else if v = 1 then true else prev := by
  rcases v with _ | _ | v <;> simp [yesNo?]

theorem yesNo?_isNone (v : Nat) : (yesNo? v).isNone = true ↔ 1 < v := by
  rcases v with _ | _ | v <;> simp [yesNo?]

theorem HoldPolicy.ofCode_isNone (v : Nat) : (HoldPolicy.ofCode v).isNone = true ↔ 1 < v := by
  rcases v with _ | _ | v <;> simp [HoldPolicy.ofCode]

theorem quantum?_getD (v prev : Nat) : (quantum? v).getD prev = if v ∈ [0, 16, 64, 256] then v else prev := by
  simp only [quantum?, List.mem_cons, List.not_mem_nil, or_false]
  split <;> rfl

theorem quantum?_isNone (v : Nat) : (quantum? v).isNone = true ↔ v ∉ [0, 16, 64, 256] := by
  simp only [quantum?, List.mem_cons, List.not_mem_nil, or_false]
  split <;> simp_all

/-! ### Conditions (R32) -/

/-- R32: a test leaves the state, the direction and the parameters of the record it tests. -/
theorem State.afterTest_record (s : State) (a : AssocId) (cond : Byte) :
    ((s.afterTest a cond).record a).state = (s.record a).state ∧ ((s.afterTest a cond).record a).dir = (s.record a).dir
      ∧ ((s.afterTest a cond).record a).params = (s.record a).params := by
  unfold State.afterTest
  split
  · rw [State.record_setRecord_same]
    exact ⟨rfl, rfl, rfl⟩
  · exact ⟨rfl, rfl, rfl⟩

/-- R164, R168: a conditional request that is not repeatable and whose act answers. -/
theorem runOnce_of_condAnswer {s u : State} {q : Request} {rest : List Request} {code : Byte} {len : Nat} {act : Request → State → State}
    {st : Status} {fl : Flags} {body : Bytes} (h : s.asksIf q rest code) (hlen : q.body.length = len)
    (hact : act q s = u.answerOnce st fl body) (hu : u.control = s.control) (a : Bool) :
    s.runOnce code a true (fun q s => s.withBody q len (act q s)) = u.withControl (s.control.replied q st fl body) := by
  obtain ⟨hb, hrun, hcode, h7⟩ := h
  rw [runOnce_of_cond hb hrun hcode h7, withBody_of_length hlen, hact, answerOnce_pump (hu ▸ hb.1), hu]

theorem State.ifMeets_of_true {s : State} {q : Request} {a : AssocId} (h : (s.record a).meets q.cond q.carg = true)
    (act : State → State) : s.ifMeets q a act = act (s.afterTest a q.cond) := by
  simp [State.ifMeets, h]

/-! ### OPEN-ASSOC (R35, R36) -/

theorem dirOfCode_eq_none {v : Nat} (h : 1 < v) : dirOfCode v = none := by
  rcases v with _ | _ | v
  · omega
  · omega
  · rfl

theorem dirOfCode_numAt {b : Bytes} {i : Nat} {d : Dir} (h : dirCode d = byteAt b i) : dirOfCode (numAt b i 1) = some d := by
  rw [numAt_one, ← h]
  cases d <;> rfl

/-- R35 check 3: a field outside its set. -/
theorem State.openChecked_of_badField {s : State} {q : Request} {a : AssocId}
    (h : 1 < numAt q.body 2 1 ∨ 3 < numAt q.body 3 1 ∨ 2047 < numAt q.body 4 2 ∨ (numAt q.body 2 1 = 1 ∧ numAt q.body 4 2 ≠ a.val)) :
    State.openChecked q a s = s.answerOnce .badField Flags.none [] := by
  unfold State.openChecked
  split
  next d n hd hn =>
    refine if_pos ?_
    obtain h | h | h | ⟨h, hne⟩ := h
    · rw [dirOfCode_eq_none h] at hd; cases hd
    · rw [toLink?_eq_none h] at hn; cases hn
    · exact .inl h
    · rw [h] at hd; cases hd; exact .inr ⟨rfl, hne⟩
  next => rfl

theorem State.openChecked_of_fields {s : State} {q : Request} {a : AssocId} {d : Dir} {n : LinkId} (hd : dirCode d = byteAt q.body 2)
    (hn : n.val = numAt q.body 3 1) (hc : numAt q.body 4 2 ≤ 2047) (hin : d = .ingress → numAt q.body 4 2 = a.val) :
    State.openChecked q a s = if s.bank.inPurge a then s.answerOnce .inPurge Flags.none []
      else if (s.record a).state ≠ .empty then s.answerOnce .badState Flags.none []
      else s.openRecord a d n (numAt q.body 4 2) (q.body.drop 6) := by
  have hfields : ¬ (2047 < numAt q.body 4 2 ∨ (d = .ingress ∧ numAt q.body 4 2 ≠ a.val)) := by
    rintro (h | ⟨h, hne⟩)
    · omega
    · exact hne (hin h)
  simp only [State.openChecked, dirOfCode_numAt hd, toLink?_of_eq hn, if_neg hfields]

/-- R36: a condition that leaves the generation. -/
theorem State.afterTest_generation (s : State) (a : AssocId) (cond : Byte) :
    ((s.afterTest a cond).record a).generation = (s.record a).generation := by
  unfold State.afterTest
  split
  · rw [State.record_setRecord_same]; rfl
  · rfl

end Sys2Proof.Machine
end

section
/-! Certificates: the requests on records that read and change parameters. -/

namespace Sys2Proof.Machine

/-- Settles O28. -/
theorem recordsAreReadAndTested : Obligations.RecordsAreReadAndTested := by
  refine ⟨⟨?_, fun k material hashKey salt => rfl⟩, ?_⟩
  · rintro s q rest a h hrep hbody
    refine congrArg Host.Outcome.next ((runRecordRepeat_once h.1 (beginRequest_of_asks h false false) hrep (by rw [hbody, u16_length])
      (by rw [hbody, numAt_assoc]) rfl rfl).trans (congrArg (fun body => s.withControl (s.control.repliedItems Flags.none 1 body)) ?_))
    generalize s.record a = r
    have hlen : (u16 a.val ++ [r.state.code, dirCode r.dir] ++ u8 r.link.val ++ u16 r.channel ++ u8 r.generation ++ r.params.report
        ++ yesNo r.wanted ++ u48 r.frames ++ u48 r.tagFails ++ slotReport r.cur ++ slotReport r.nxt ++ slotReport r.old
        ++ u32 (graceLeft r.old s.now)).length = 38 + (slotReport r.cur ++ slotReport r.nxt ++ slotReport r.old).length := by
      simp [AssocParams.report, u8, u16, u32, u48, yesNo, beBytes_length]
      omega
    rw [Record.report, padTo, hlen, Nat.sub_add_eq]
    simp only [AssocParams.report, List.append_assoc]
  · rintro s q rest a ⟨hb, hrun, hcode, h7⟩ hrep hbody
    refine ⟨congrArg Host.Outcome.next ?_, fun h => ⟨by rw [h, Record.meets_unconditional], s.afterTest_of_ne a (by rw [h]; decide)⟩, fun h => ?_⟩
    · rw [runRecordRepeat_once hb (beginRequest_of_cond hb hrun hcode h7 false) hrep (by rw [hbody, u16_length])
        (by rw [hbody, numAt_assoc]) rfl (s.afterTest_control a q.cond)]
      split <;> rfl
    · rw [h, s.afterTest_ifSoft, State.record_setRecord_same]
      rcases hcur : (s.record a).cur with _ | k <;> simp [Record.softFlag, Record.clearSoft, hcur]

/-- Settles O26. -/
theorem setAssocChangesParameters : Obligations.SetAssocChangesParameters := by
  refine ⟨?_, ?_⟩
  · rintro d p b p' rfl given yes
    have hgiven : ∀ i, markerSet (byteAt b i) = given i := fun i => markerSet_eq _
    have hyes : ∀ i prev, (yesNo? (numAt b i 1)).getD prev = yes i prev := fun i prev => yesNo?_getD _ prev
    simp only [applyAssocParams, Flags.foldl_join_clamped, Flags.foldl_join_held, Flags.foldl_join_repeatIgnored, handleParam_value,
      holdUnless_value, hgiven, hyes, quantum?_getD, List.any_cons, List.any_nil, Handled.flags, handleParam_clamped, handleParam_held,
      holdUnless_clamped, holdUnless_held, clampTo]
    have hsoft : (numAt b 12 4 < 1 ∨ 0xFFFFFFFF < numAt b 12 4) ↔ numAt b 12 4 = 0 := by
      have := numAt_lt b 12 4
      omega
    have heg : (d == Dir.egress) = true ↔ d = .egress := beq_iff_eq
    have hin : (!d == Dir.egress) = true ↔ d = .ingress := by cases d <;> decide
    refine ⟨rfl, ?_, ?_, ?_, ?_, ?_, ?_, ?_, ?_, ?_, ?_⟩
    · simp only [Bool.and_eq_true, heg]
    · refine if_congr Iff.rfl ?_ rfl
      rcases numAt b 5 1 with _ | _ | v <;> rfl
    · simp only [Bool.and_eq_true, heg]
    · simp only [Bool.and_eq_true, heg]
      split_ifs <;> simp_all
    · simp only [Bool.and_eq_true, heg]
    · simp only [Bool.and_eq_true, heg]
    · simp only [Bool.and_eq_true, hin]
    · simp only [Bool.or_eq_true, Bool.and_eq_true, decide_eq_true_eq, heg, hin, Bool.false_eq_true, and_false, or_false, false_or,
        Flags.none, and_assoc, Nat.not_lt_zero, hsoft]
    · simp only [Bool.or_eq_true, Bool.and_eq_true, heg, Bool.false_eq_true, and_false, or_false, false_or, yesNo?_isNone,
        HoldPolicy.ofCode_isNone, quantum?_isNone, Flags.none, true_and, and_assoc]
    · rfl
  · rintro s q rest a s1 ⟨hb, hrun, hcode, h7⟩ hrep hlen ha rfl
    have hrun1 := fun {u : State} {fl : Flags} {data : Bytes} (hitem : State.setAssocItem q a s = (u, fl, data)) =>
      runRecordRepeat_once (size := 1) hb (beginRequest_of_cond hb hrun hcode h7 false) hrep hlen ha.symm hitem
    refine congrArg Host.Outcome.next ?_
    rcases hmeets : (s.record a).meets q.cond q.carg
    · rw [if_pos rfl]
      exact hrun1 (State.itemIfMeets_of_false hmeets _) (s.afterTest_control a q.cond)
    · rw [if_neg Bool.true_eq_false.mp]
      obtain ⟨hstate, hdir, hparams⟩ := s.afterTest_record a q.cond
      have hopen : ((s.afterTest a q.cond).record a).isOpen = true
          ↔ (s.record a).state = .opened ∨ (s.record a).state = .live ∨ (s.record a).state = .exhausted := by
        rw [Record.isOpen_iff, hstate]
      split
      next h =>
        refine hrun1 (State.itemIfMeets_of_true hmeets ?_) (s.afterTest_control a q.cond)
        have hparam : applyAssocParams ((s.afterTest a q.cond).record a).dir ((s.afterTest a q.cond).record a).params (q.body.drop 2)
            = applyAssocParams (s.record a).dir (s.record a).params (q.body.drop 2) := by rw [hdir, hparams]
        simp only [State.setAssocRecord, if_pos (hopen.2 h), hparam]
      next h =>
        refine hrun1 (State.itemIfMeets_of_true hmeets ?_) (s.afterTest_control a q.cond)
        exact if_neg (mt hopen.1 h)

/-- Settles O27. -/
theorem openAssocOpensARecord : Obligations.OpenAssocOpensARecord := by
  rintro s q rest h hlen
  have hrun : ∀ {u : State} {st : Status} {fl : Flags} {body : Bytes}, State.openAssoc q s = u.answerOnce st fl body →
      u.control = s.control → exec .openAssoc s = .next (u.withControl (s.control.replied q st fl body)) := fun hact hu =>
    congrArg Host.Outcome.next (runOnce_of_condAnswer (act := State.openAssoc) h hlen hact hu false)
  refine ⟨fun hindex => hrun (u := s) (by simp only [State.openAssoc, toAssoc?_eq_none hindex]) rfl, ?_⟩
  rintro a s1 ha hs1
  have hcontrol : s1.control = s.control := hs1 ▸ s.afterTest_control a q.cond
  have hopen : State.openAssoc q s = s.ifMeets q a (State.openChecked q a) := by simp only [State.openAssoc, toAssoc?_of_eq ha]
  refine ⟨fun hfalse => hrun (hopen.trans (hs1 ▸ State.ifMeets_of_false hfalse _)) hcontrol, fun hmeets => ?_⟩
  have hchecked : State.openAssoc q s = State.openChecked q a s1 := hopen.trans (hs1 ▸ State.ifMeets_of_true hmeets _)
  refine ⟨fun hbad => hrun (hchecked.trans (State.openChecked_of_badField hbad)) hcontrol, fun d n hd hn hc hin => ?_⟩
  have hbank : s1.bank = s.bank := hs1 ▸ (s.afterTest_frame a q.cond).2.1
  have hstate : (s1.record a).state = (s.record a).state := hs1 ▸ (s.afterTest_record a q.cond).1
  have hgen : (s1.record a).generation = (s.record a).generation := hs1 ▸ s.afterTest_generation a q.cond
  rw [State.openChecked_of_fields hd hn hc hin, hbank, hstate] at hchecked
  split
  next hp => exact hrun (hchecked.trans (if_pos hp)) hcontrol
  next hp =>
    split
    next hs => exact hrun (hchecked.trans ((if_neg hp).trans (if_pos hs))) hcontrol
    next hs =>
      rw [if_neg hp, if_neg hs] at hchecked
      rw [← hgen]
      exact hrun (u := s1.setRecord a _) hchecked hcontrol

end Sys2Proof.Machine
end

section
/-! SUPPORT. SET-LINK-PARAMS: the parameters of its body, and what new thresholds do to a buffer (R143, R144, R153, R154). -/

namespace Sys2Proof.Machine

/-! ### The parameters (R153, R154) -/

theorem handleEnvType_eq (prev v : Nat) : (handleEnvType prev v).value = (if v = 0x8100 then prev else min 0xFFFF (max 0x0600 v))
    ∧ (handleEnvType prev v).clamped = (decide (v ≠ 0x8100) && (decide (v < 0x0600) || decide (0xFFFF < v)))
    ∧ (handleEnvType prev v).held = decide (v = 0x8100) := by
  unfold handleEnvType
  by_cases h : v = 0x8100 <;> simp [h, Handled.hold, clampTo]

theorem raiseXon_value (b : BufferParams) : (raiseXon b).value = { b with xon := max (b.xoff + 1) b.xon } := by
  unfold raiseXon
  split
  next h => rw [Nat.max_eq_left (by omega)]
  next h => rw [Nat.max_eq_right (by omega)]; rfl

theorem raiseXon_flags (b : BufferParams) : (raiseXon b).clamped = decide (b.xon ≤ b.xoff) ∧ (raiseXon b).held = false := by
  unfold raiseXon
  split <;> simp_all [Handled.take]

theorem linkAssoc?_getD (v : Nat) (prev : Option AssocId) : (linkAssoc? v).getD prev
    = if v = 0xFFFF then none else if h : v < 2048 then some ⟨v, h⟩ else prev := by
  unfold linkAssoc? toAssoc?
  split
  · rfl
  · split <;> rfl

theorem linkAssoc?_isNone (v : Nat) : (linkAssoc? v).isNone = true ↔ 2048 ≤ v ∧ v ≠ 0xFFFF := by
  unfold linkAssoc? toAssoc?
  split
  · simp_all
  · split
    · simp; omega
    · simp; omega

theorem Verdict.ofCode_isNone (v : Nat) : (Verdict.ofCode v).isNone = true ↔ 2 < v := by
  rcases v with _ | _ | _ | v <;> simp [Verdict.ofCode]

theorem linkMarkersGood_iff (b : Bytes) : linkMarkersGood b = true ↔ ∀ i ∈ linkMarkers, (byteAt b i).toNat ≤ 1 := by
  have hbyte : ∀ x : Byte, (x == 0 || x == 1) = true ↔ x.toNat ≤ 1 := by decide
  simp only [linkMarkersGood, List.all_eq_true, hbyte]

theorem applyLinkParams_held (p : LinkParams) (b : Bytes) : (applyLinkParams p b).2.held = true
    ↔ (byteAt b 1 = 1 ∧ numAt b 2 2 = 0x8100) ∨ (byteAt b 10 = 1 ∧ 2 < numAt b 11 1)
      ∨ (byteAt b 12 = 1 ∧ 2048 ≤ numAt b 13 2 ∧ numAt b 13 2 ≠ 0xFFFF)
      ∨ (byteAt b 49 = 1 ∧ 2048 ≤ numAt b 50 2 ∧ numAt b 50 2 ≠ 0xFFFF) := by
  simp only [applyLinkParams, Flags.foldl_join_held, List.any_cons, List.any_nil, Handled.flags, setParam_held, holdUnless_held, clampTo,
    raiseXon_flags, handleEnvType_eq, Handled.take, Flags.none, Bool.or_eq_true, Bool.and_eq_true, decide_eq_true_eq, beq_iff_eq,
    Bool.false_eq_true, and_false, or_false, false_or, Verdict.ofCode_isNone, linkAssoc?_isNone]

/-- R153: a body with every marker 0 gives nothing. -/
theorem applyLinkParams_of_unmarked {p : LinkParams} {b : Bytes} (hin : p.inRange) (h : ∀ i ∈ linkMarkers, byteAt b i = 0) :
    applyLinkParams p b = (p, Flags.none) := by
  simp only [linkMarkers, List.forall_mem_cons, List.not_mem_nil, false_imp_iff, implies_true, and_true] at h
  obtain ⟨-, -, -, -, -, -, -, -, -, -, -, ⟨-, -, he, -⟩, ⟨-, -, hi, -⟩, -⟩ := hin
  have hxon : ∀ x : BufferParams, x.xoff + 1 ≤ x.xon → raiseXon x = .take x := fun x hx => if_neg (by omega)
  simp [applyLinkParams, setParam, h, Handled.take, hxon, he, hi, Handled.flags, Flags.join, Flags.none]

/-- R143: after SET-LINK-PARAMS every XON lies above its XOFF. -/
theorem applyLinkParams_xon (p : LinkParams) (b : Bytes) (d : Dir) :
    ((applyLinkParams p b).1.buf d).xoff < ((applyLinkParams p b).1.buf d).xon := by
  cases d <;> simp only [applyLinkParams, LinkParams.buf, raiseXon_value] <;> omega

theorem State.setParams_self (s : State) (n : LinkId) : s.setParams n (s.params n) = s := by
  have hlink : s.setLink n { s.link n with params := s.params n } = s := State.setLink_self s n
  simp [State.setParams, hlink, State.thresholdTest]

/-! ### The pause test of a change of thresholds (R143, R144) -/

/-- R143: the path after a change of thresholds from `old` to `b`. -/
def Path.retested (p : Path) (old b : BufferParams) (now : Nat) : Path :=
  if b.xoff = old.xoff ∧ b.xon = old.xon then p else p.tested b now

/-- R143, R145: what it asks of the feeding port. -/
def Path.reasks (p : Path) (old b : BufferParams) : List PauseKind := if b.xoff = old.xoff ∧ b.xon = old.xon then [] else p.asks b

theorem State.thresholdTest_eq (s : State) (d : Dir) (n : LinkId) (old : BufferParams) : s.thresholdTest d n old
    = (s.setPath d n ((s.path d n).retested old ((s.params n).buf d) s.now)).setPort (feedSide d) n
        ((s.port (feedSide d) n).asked ((s.path d n).reasks old ((s.params n).buf d))) := by
  by_cases h : ((s.params n).buf d).xoff = old.xoff ∧ ((s.params n).buf d).xon = old.xon
  · simp [State.thresholdTest, Path.retested, Path.reasks, h]
  · simp only [State.thresholdTest, Path.retested, Path.reasks, if_neg h]
    exact s.pauseTest_eq d n _ _ rfl rfl

theorem feedSide_ne {d d' : Dir} (h : d ≠ d') : feedSide d ≠ feedSide d' := by
  cases d <;> cases d' <;> simp_all [feedSide]

/-- R143: what the test of one buffer leaves, and what it makes of its path and its port. -/
theorem State.thresholdTest_frame (s : State) (d : Dir) (n : LinkId) (old : BufferParams) {t : State} (ht : t = s.thresholdTest d n old) :
    t.path d n = (s.path d n).retested old ((s.params n).buf d) s.now
      ∧ t.port (feedSide d) n = (s.port (feedSide d) n).asked ((s.path d n).reasks old ((s.params n).buf d))
      ∧ t.params n = s.params n ∧ (t.link n).mode = (s.link n).mode ∧ (t.link n).cover = (s.link n).cover
      ∧ (∀ m, m ≠ n → t.link m = s.link m) ∧ s.sameCore t
      ∧ ∀ d', d' ≠ d → t.path d' n = s.path d' n ∧ t.port (feedSide d') n = s.port (feedSide d') n := by
  rw [s.thresholdTest_eq] at ht
  obtain ⟨hpath, hcore, hparams, hmode, hcover, hother, hpaths, hports, -⟩ := State.pathStep_frame ⟨_, ht⟩
  refine ⟨hpath, ?_, hparams n, hmode n, hcover n, hother, hcore, fun d' hne => ⟨hpaths d' n ?_, hports _ n ?_⟩⟩
  · rw [ht, State.port_setPort_same]
  · exact fun h => hne (Prod.mk.inj h).1
  · exact fun h => feedSide_ne hne (Prod.mk.inj h).1

/-- R153: what new parameters leave of the machine, and what they make of the paths and ports of their link. -/
theorem State.setParams_frame (s : State) (n : LinkId) (p : LinkParams) {t : State} (ht : t = s.setParams n p) :
    (∀ d, t.path d n = (s.path d n).retested ((s.params n).buf d) (p.buf d) s.now)
      ∧ (∀ d, t.port (feedSide d) n = (s.port (feedSide d) n).asked ((s.path d n).reasks ((s.params n).buf d) (p.buf d)))
      ∧ t.params n = p ∧ (t.link n).mode = (s.link n).mode ∧ (t.link n).cover = (s.link n).cover
      ∧ (∀ m, m ≠ n → t.link m = s.link m) ∧ s.sameCore t := by
  obtain ⟨u, hu⟩ : ∃ u, u = s.setLink n { s.link n with params := p } := ⟨_, rfl⟩
  obtain ⟨v, hv⟩ : ∃ v, v = u.thresholdTest .egress n ((s.params n).buf .egress) := ⟨_, rfl⟩
  have hlink : u.link n = { s.link n with params := p } := by rw [hu, State.link_setLink_same]
  have hpath : ∀ d, u.path d n = s.path d n := fun d => by rw [State.path, hlink]; cases d <;> rfl
  have hport : ∀ side, u.port side n = s.port side n := fun side => by rw [State.port, hlink]; cases side <;> rfl
  have hparams : u.params n = p := by rw [State.params, hlink]
  have hmode : (u.link n).mode = (s.link n).mode := by rw [hlink]
  have hcover : (u.link n).cover = (s.link n).cover := by rw [hlink]
  have hother : ∀ m, m ≠ n → u.link m = s.link m := fun m hm => by rw [hu, State.link_setLink_ne _ _ hm]
  have hcore : s.sameCore u := hu ▸ ⟨rfl, rfl, rfl, rfl, rfl, rfl, rfl, rfl, rfl, rfl, rfl⟩
  have hunow : u.now = s.now := hu ▸ rfl
  obtain ⟨hvp, hvq, hvparams, hvmode, hvcover, hvother, hvcore, hvrest⟩ := u.thresholdTest_frame _ _ _ hv
  have hvnow : v.now = s.now := by rw [← hunow]; exact hvcore.2.2.2.2.2.2.2.2.2.1
  obtain ⟨htp, htq, htparams, htmode, htcover, htother, htcore, htrest⟩ :=
    v.thresholdTest_frame .ingress n ((s.params n).buf .ingress) (t := t) (by rw [ht, hv, hu]; rfl)
  obtain ⟨hvpath, hvport⟩ := hvrest .ingress (by decide)
  obtain ⟨htpath, htport⟩ := htrest .egress (by decide)
  refine ⟨fun d => ?_, fun d => ?_, htparams.trans (hvparams.trans hparams), htmode.trans (hvmode.trans hmode),
    htcover.trans (hvcover.trans hcover), fun m hm => (htother m hm).trans ((hvother m hm).trans (hother m hm)),
    (hcore.trans hvcore).trans htcore⟩
  · cases d with
    | egress => rw [htpath, hvp, hpath, hparams, hunow]
    | ingress => rw [htp, hvpath, hpath, hvparams, hparams, hvnow]
  · cases d with
    | egress => rw [htport, hvq, hpath, hport, hparams]
    | ingress => rw [htq, hvport, hport, hvpath, hpath, hvparams, hparams]

/-- R144: the three ends of a pause test. -/
theorem Path.tested_cases (p : Path) (b : BufferParams) (now : Nat) :
    (p.pausing = false ∧ p.stops b = true ∧ p.resumes b = false
        ∧ p.tested b now = { p with pausing := true, resendAt := some (now + resendInterval b) })
      ∨ (p.pausing = true ∧ p.stops b = false ∧ p.resumes b = true ∧ p.tested b now = { p with pausing := false, resendAt := none })
      ∨ (p.stops b = false ∧ p.resumes b = false ∧ p.tested b now = p) := by
  rcases hp : p.pausing
  · by_cases h : p.free < b.xoff
    · exact .inl (by simp [Path.tested, Path.stops, Path.resumes, hp, h])
    · refine .inr (.inr ?_)
      have hs : p.stops b = false := by simp [Path.stops, h]
      have hr : p.resumes b = false := by simp [Path.resumes, hp]
      refine ⟨hs, hr, ?_⟩
      simp only [Path.tested, hs, hr, hp, Bool.or_self, Bool.not_false, Bool.and_true, Bool.false_eq_true, if_false]
      rw [← hp]
  · by_cases h : b.xon ≤ p.free
    · exact .inr (.inl (by simp [Path.tested, Path.stops, Path.resumes, hp, h]))
    · refine .inr (.inr ?_)
      have hs : p.stops b = false := by simp [Path.stops, hp]
      have hr : p.resumes b = false := by simp [Path.resumes, h]
      refine ⟨hs, hr, ?_⟩
      simp only [Path.tested, hs, hr, hp, Bool.or_false, Bool.not_false, Bool.and_true, Bool.false_eq_true, if_false]
      rw [← hp]

/-- R144: what a test makes of a path whose thresholds have changed, with XON above XOFF. -/
theorem Path.retested_eq (p : Path) {old b : BufferParams} (now : Nat) (hb : b.xoff < b.xon) :
    (b.xoff = old.xoff → b.xon = old.xon → p.retested old b now = p)
      ∧ (b.xoff ≠ old.xoff ∨ b.xon ≠ old.xon → ((p.retested old b now).pausing = true
          ↔ p.free < b.xoff ∨ (p.pausing = true ∧ p.free < b.xon)))
      ∧ p.retested old b now = { p with
          pausing := (p.retested old b now).pausing
          resendAt := if (p.retested old b now).pausing = p.pausing then p.resendAt
            else if (p.retested old b now).pausing then some (now + b.quanta * 512 / 2) else none }
      ∧ ∀ up : Bool, (if up then p.reasks old b else []) = (if (p.retested old b now).pausing = p.pausing ∨ up = false then []
          else if (p.retested old b now).pausing then [.stop] else [.resume]) := by
  unfold Path.retested Path.reasks
  by_cases h : b.xoff = old.xoff ∧ b.xon = old.xon
  · simp only [if_pos h]
    refine ⟨fun _ _ => trivial, fun hne => ?_, by simp, fun up => by simp⟩
    omega
  · simp only [if_neg h]
    refine ⟨fun h1 h2 => absurd ⟨h1, h2⟩ h, fun _ => ?_, ?_, fun up => ?_⟩
    · rcases hp : p.pausing
      · simp [Path.tested, Path.stops, Path.resumes, hp]
      · simp [Path.tested, Path.stops, Path.resumes, hp]
        omega
    · obtain ⟨hp, hs, hr, ht⟩ | ⟨hp, hs, hr, ht⟩ | ⟨hs, hr, ht⟩ := p.tested_cases b now
      · simp [ht, hp, resendInterval, Config.quantumTicks]
      · simp [ht, hp]
      · simp [ht]
    · obtain ⟨hp, hs, hr, ht⟩ | ⟨hp, hs, hr, ht⟩ | ⟨hs, hr, ht⟩ := p.tested_cases b now
      · cases up <;> simp [ht, hp, Path.asks, hs]
      · cases up <;> simp [ht, hp, Path.asks, hs, hr]
      · simp [ht, Path.asks, hs, hr]

end Sys2Proof.Machine
end

section
/-! Certificates: SET-LINK-PARAMS. -/

namespace Sys2Proof.Machine

/-- Settles O17: what the body gives, then the request's refusals, then what it does to the link and its buffers. -/
theorem setLinkParamsSetsThem : Obligations.SetLinkParamsSetsThem := by
  refine ⟨?_, ?_⟩
  · rintro p b p' rfl given
    have hgiven : ∀ i, (byteAt b i == 1) = given i := fun _ => rfl
    obtain ⟨henv, hclamp, -⟩ := handleEnvType_eq p.envType (numAt b 2 2)
    simp only [applyLinkParams, Flags.foldl_join_clamped, Flags.foldl_join_repeatIgnored, setParam_value,
      holdUnless_value, hgiven, henv, List.any_cons, List.any_nil, Handled.flags, setParam_clamped, setParam_held, hclamp,
      holdUnless_clamped, clampTo, raiseXon_value, raiseXon_flags, linkAssoc?_getD, Handled.take, true_and, Flags.none]
    refine ⟨?_, ?_, rfl⟩
    · refine if_congr Iff.rfl ?_ rfl
      rcases numAt b 11 1 with _ | _ | _ | v <;> rfl
    · have hword : ∀ i, (numAt b i 2 < 1 ∨ 65535 < numAt b i 2) ↔ numAt b i 2 = 0 := fun i => by
        have := numAt_two_le b i
        omega
      have htype : (numAt b 2 2 ≠ 33024 ∧ (numAt b 2 2 < 1536 ∨ 65535 < numAt b 2 2)) ↔ numAt b 2 2 < 1536 := by
        have := numAt_two_le b 2
        omega
      simp only [Bool.or_eq_true, Bool.and_eq_true, decide_eq_true_eq, Bool.false_eq_true, and_false, or_false, false_or, htype, hword]
  · rintro s q rest h hlen
    have hrun : ∀ {u : State} {st : Status} {fl : Flags} {body : Bytes}, State.setLinkParams q s = u.answerOnce st fl body →
        u.control = s.control → exec .setLinkParams s = .next (u.withControl (s.control.replied q st fl body)) := fun hact hu =>
      congrArg Host.Outcome.next (runOnce_of_answer (act := State.setLinkParams) h hlen hact hu false false)
    refine ⟨fun hindex => hrun (u := s) ?_ rfl, ?_⟩
    · simp only [State.setLinkParams, numAt_one, toLink?_eq_none hindex]
    rintro n hn
    have hlink : toLink? (numAt q.body 0 1) = some n := toLink?_of_eq (by rw [numAt_one, hn])
    refine ⟨fun hbad => hrun (u := s) ?_ rfl, fun hgood => ?_⟩
    · simp only [State.setLinkParams, hlink]
      obtain ⟨i, hi, hbyte⟩ := hbad
      rw [if_neg fun hg => absurd ((linkMarkersGood_iff _).1 hg i hi) (by omega)]
    · have hact : State.setLinkParams q s = (s.setParams n (applyLinkParams (s.params n) q.body).1).answerOnce .ok
          (applyLinkParams (s.params n) q.body).2 ((s.setParams n (applyLinkParams (s.params n) q.body).1).link n).paramsReport := by
        simp only [State.setLinkParams, hlink]
        rw [if_pos ((linkMarkersGood_iff q.body).2 hgood)]
      obtain ⟨t, ht⟩ : ∃ t, t = s.setParams n (applyLinkParams (s.params n) q.body).1 := ⟨_, rfl⟩
      obtain ⟨hpath, hport, hparams, hmode, hcover, hother, hcore⟩ := s.setParams_frame n _ ht
      obtain ⟨hrecords, hbank, hrules, hflow, hlanes, hgrant, hdevice, hprov, hcontrol, hnow, -⟩ := hcore
      rw [← ht] at hact
      refine ⟨_, hrun hact hcontrol, hparams, applyLinkParams_held _ _, ?_, ?_, fun hnone hin => ?_, hmode, hcover, hother, hrecords, hbank,
        hrules, hflow, hlanes, hgrant, hdevice, hprov, hnow⟩
      · rw [Link.paramsReport, hcover]; rfl
      · rintro d b b' rfl rfl
        simp only [State.params_withControl, State.path_withControl, State.port_withControl]
        have hb : ((t.params n).buf d).xoff < ((t.params n).buf d).xon := by
          rw [hparams]
          exact applyLinkParams_xon _ _ d
        obtain ⟨hkeep, hpausing, hform, hasks⟩ := (s.path d n).retested_eq (old := (s.params n).buf d) s.now hb
        rw [hparams, ← hpath d] at hkeep hpausing hform hasks
        rw [hparams]
        refine ⟨hkeep, hpausing, hform, ?_⟩
        exact (hport d).trans (by rw [Port.asked, hasks]; congr)
      · have hsame := applyLinkParams_of_unmarked hin hnone
        refine ⟨?_, by rw [hsame]⟩
        rw [ht, hsame, State.setParams_self]
        rfl

end Sys2Proof.Machine
end

section
/-! SUPPORT. The receive line, byte by byte and frame by frame (R161, R162), and the transmitter's choice (R169). -/

namespace Sys2Proof.Machine

/-! ### The transmitter (R169) -/

theorem Control.pump_of_sending {c : Control} (h : c.sending ≠ none) : c.pump = c := by
  unfold Control.pump
  split
  · rfl
  next hs => exact absurd hs h

theorem Control.pump_of_reply {c : Control} {r : Reply} {rest : List Reply} (hs : c.sending = none) (hr : c.replies = r :: rest) :
    c.pump = { c with replies := rest, sending := some (lineFrame r.content) } := by
  simp only [Control.pump, hs, hr]

theorem Control.pump_of_notice {c : Control} {v : Notice} {rest : List Notice} (hs : c.sending = none) (hr : c.replies = [])
    (hv : c.notices = v :: rest) : c.pump = { c with notices := rest, sending := some (lineFrame v.content) } := by
  simp only [Control.pump, hs, hr, hv]

theorem Control.pump_of_nothing {c : Control} (hs : c.sending = none) (hr : c.replies = []) (hv : c.notices = []) : c.pump = c := by
  simp only [Control.pump, hs, hr, hv]

/-- R169: a transmitter that has made its choice makes no other. -/
theorem Control.pump_pump (c : Control) : c.pump.pump = c.pump := by
  by_cases hs : c.sending = none
  · rcases hr : c.replies with _ | ⟨r, rest⟩
    · rcases hv : c.notices with _ | ⟨v, rest⟩
      · rw [Control.pump_of_nothing hs hr hv, Control.pump_of_nothing hs hr hv]
      · rw [Control.pump_of_notice hs hr hv, Control.pump_of_sending (by simp)]
    · rw [Control.pump_of_reply hs hr, Control.pump_of_sending (by simp)]
  · rw [Control.pump_of_sending hs, Control.pump_of_sending hs]

theorem lineFrame_eq (content : Bytes) :
    lineFrame content = [0xC3] ++ u16 content.length ++ content ++ crc16 (u16 content.length ++ content) := by
  rw [lineFrame, List.append_assoc, List.append_assoc, List.append_assoc, List.append_assoc]

theorem crc16_length (bs : Bytes) : (crc16 bs).length = 2 := u16_length _

/-! ### The receiver (R161, R162) -/

theorem Control.receive_sync {c : Control} (h : c.receiver = .hunt) : c.receive 0xC3 = { c with receiver := .length [] } := by
  simp [Control.receive, h]

theorem Control.receive_hunt {c : Control} (h : c.receiver = .hunt) {b : Byte} (hb : b ≠ 0xC3) : c.receive b = c := by
  simp only [Control.receive, h]
  exact if_neg hb

theorem u16_eq (v : Nat) : ∃ a b, u16 v = [a, b] := ⟨_, _, rfl⟩

/-- R162: the two LENGTH bytes. -/
theorem Control.receive_length {c : Control} (h : c.receiver = .length []) {v : Nat} (hv : v < 65536) : c.receiveAll (u16 v)
    = { c with receiver := if 6 ≤ v ∧ v ≤ 1030 then .content v [] else .hunt } := by
  obtain ⟨a, b, hab⟩ := u16_eq v
  have hnum : beNat [a, b] = v := hab ▸ beNat_u16 hv
  rw [hab]
  simp only [Control.receiveAll, List.foldl_cons, List.foldl_nil, Control.receive, h, List.nil_append,
    List.singleton_append, List.length_cons, List.length_nil, hnum, Nat.reduceAdd, Nat.reduceLT, if_true, if_false]
  split <;> rfl

/-- R161: the content bytes. -/
theorem Control.receive_content {size : Nat} {bs : Bytes} (c : Control) (got : Bytes) (h : c.receiver = .content size got)
    (hne : bs ≠ []) (hlen : got.length + bs.length = size) : c.receiveAll bs = { c with receiver := .check size (got ++ bs) [] } := by
  induction bs generalizing c got with
  | nil => exact absurd rfl hne
  | cons b bs ih =>
    rw [List.length_cons] at hlen
    rcases hbs : bs with _ | ⟨x, xs⟩
    · have hend : ¬ (got ++ [b]).length < size := by simp_all
      simp only [Control.receiveAll, List.foldl_cons, List.foldl_nil, Control.receive, h, if_neg hend]
    · have hmore : (got ++ [b]).length < size := by simp_all; omega
      have hstep : c.receive b = { c with receiver := .content size (got ++ [b]) } := by simp only [Control.receive, h, if_pos hmore]
      rw [← hbs]
      change Control.receiveAll (c.receive b) bs = _
      rw [hstep, ih _ (got ++ [b]) rfl (by simp [hbs]) (by simp; omega), List.append_assoc]
      rfl

/-- R161: the two CRC bytes. -/
theorem Control.receive_check {c : Control} {size : Nat} {content crc : Bytes} (h : c.receiver = .check size content [])
    (hcrc : crc.length = 2) : c.receiveAll crc = c.complete size content crc := by
  obtain ⟨a, b, rfl⟩ := List.length_eq_two.1 hcrc
  simp [Control.receiveAll, Control.receive, h, Control.complete]

/-- R161: a whole frame that begins in HUNT. -/
theorem Control.receive_frame {c : Control} {content crc : Bytes} (h : c.receiver = .hunt) (h6 : 6 ≤ content.length)
    (hmax : content.length ≤ 1030) (hcrc : crc.length = 2) :
    c.receiveAll ([0xC3] ++ u16 content.length ++ content ++ crc) = c.complete content.length content crc := by
  have happ : ∀ (c : Control) (x y : Bytes), c.receiveAll (x ++ y) = (c.receiveAll x).receiveAll y := fun c x y => List.foldl_append
  have hsync : c.receiveAll [0xC3] = { c with receiver := .length [] } := Control.receive_sync h
  have hne : content ≠ [] := List.ne_nil_of_length_pos (by omega)
  rw [happ, happ, happ, hsync, Control.receive_length rfl (by omega), if_pos ⟨h6, hmax⟩,
    Control.receive_content (bs := content) _ [] rfl hne (Nat.zero_add _), Control.receive_check rfl hcrc]
  rfl

theorem Control.unhunted {c : Control} (h : c.receiver = .hunt) : { c with receiver := .hunt } = c := by rw [← h]

/-- R161: an intact frame of a request. -/
theorem Control.complete_of_request {c : Control} {content crc : Bytes} {q : Request} (h : c.receiver = .hunt)
    (hcrc : crc16 (u16 content.length ++ content) = crc) (hq : requestOf content = some q) :
    c.complete content.length content crc = (c.enqueue q).pump := by
  simp only [Control.complete, if_pos hcrc, hq]
  rw [Control.unhunted h]

/-- R161: a frame with another CRC or another KIND. -/
theorem Control.complete_of_bad {c : Control} {content crc : Bytes} (h : c.receiver = .hunt)
    (hbad : crc ≠ crc16 (u16 content.length ++ content) ∨ requestOf content = none) : c.complete content.length content crc = c := by
  simp only [Control.complete]
  rw [Control.unhunted h]
  obtain hcrc | hkind := hbad
  · exact if_neg fun he => hcrc he.symm
  · rw [hkind]
    exact ite_self _

theorem requestOf_none {content : Bytes} (h : byteAt content 0 ≠ 0x51) : requestOf content = none := by
  unfold requestOf
  split
  · exact if_neg h
  · rfl

theorem State.receiveAll_of_listening {s : State} (h : s.device.state ≠ .inReset) (bs : Bytes) :
    s.receiveAll bs = s.withControl (s.control.receiveAll bs).pump := if_pos (by simpa [State.listening] using h)

end Sys2Proof.Machine
end

section
/-! Certificates: the control line. -/

namespace Sys2Proof.Machine

/-- Settles O60. -/
theorem transmitterSendsRepliesFirst : Obligations.TransmitterSendsRepliesFirst := by
  refine ⟨fun c q rest st fl k body hreq hrep hs => ?_, fun s => ⟨fun r rest hr => congrArg Host.Outcome.next ?_,
    fun hr v rest hv => congrArg Host.Outcome.next ?_, fun hr hv => congrArg Host.Outcome.next ?_, fun content => ?_⟩⟩
  · have hanswer : c.answer st fl k body = { c with
        requests := rest, exec := .idle,
        replies := [{ executed := true, tag := q.tag, code := q.code, status := st, flags := fl, doneCount := k, body := body }] } := by
      simp only [Control.answer, hreq, hrep, List.nil_append]
    rw [hanswer, hrep]
    have hreply := Control.pump_of_reply (c := { c with
        requests := rest, exec := .idle,
        replies := [{ executed := true, tag := q.tag, code := q.code, status := st, flags := fl, doneCount := k, body := body }] })
      (rest := []) hs rfl
    simpa only [Reply.content] using hreply
  · exact congrArg s.withControl (Control.pump_of_reply (c := { s.control with sending := none }) rfl hr)
  · exact congrArg s.withControl (Control.pump_of_notice (c := { s.control with sending := none }) rfl hr hv)
  · exact congrArg s.withControl (Control.pump_of_nothing (c := { s.control with sending := none }) rfl hr hv)
  · exact lineFrame_eq content

/-- Settles O59. -/
theorem requestFramesAreQueued : Obligations.RequestFramesAreQueued := by
  refine ⟨?_, ?_, ?_, ?_, ?_, fun c h b hb => Control.receive_hunt h hb⟩
  · rintro s q hdev hhunt hbody full c rfl rfl
    refine congrArg Host.Outcome.next ((State.receiveAll_of_listening hdev _).trans (congrArg s.withControl ?_))
    have hlen : ([0x51, q.tag, q.code, q.repeatCount, q.cond, q.carg] ++ q.body).length = 6 + q.body.length := by simp; omega
    rw [lineFrame_eq, Control.receive_frame hhunt (by omega) (by omega) (crc16_length _),
      Control.complete_of_request (q := q) hhunt rfl rfl, Control.pump_pump]
    rfl
  · rintro s content crc hdev hhunt h6 hmax hcrc hbad
    refine congrArg Host.Outcome.next ((State.receiveAll_of_listening hdev _).trans (congrArg s.withControl ?_))
    rw [Control.receive_frame hhunt h6 hmax hcrc, Control.complete_of_bad hhunt (hbad.imp_right requestOf_none)]
  · rintro s len hdev hhunt hlen
    refine congrArg Host.Outcome.next ((State.receiveAll_of_listening hdev _).trans (congrArg s.withControl ?_))
    have hsync : s.control.receiveAll [0xC3] = { s.control with receiver := .length [] } := Control.receive_sync hhunt
    rw [show s.control.receiveAll ([0xC3] ++ u16 len) = (s.control.receiveAll [0xC3]).receiveAll (u16 len) from List.foldl_append, hsync,
      Control.receive_length rfl (by omega), if_neg (by omega)]
    exact congrArg Control.pump (Control.unhunted hhunt)
  · rintro s bytes i hi hdev
    have hlisten : s.listening = true := by simpa [State.listening] using hdev
    obtain rfl | rfl := hi
    · exact congrArg Host.Outcome.next (if_pos hlisten)
    · exact congrArg Host.Outcome.next (if_pos hlisten)
  · rintro s bytes i hdev hi
    have hlisten : ¬ s.listening = true := by simp [State.listening, hdev]
    simp only [List.mem_cons, List.not_mem_nil, or_false] at hi
    obtain rfl | rfl | rfl | rfl := hi
    all_goals exact congrArg Host.Outcome.next (if_neg hlisten)

end Sys2Proof.Machine
end

section
/-! SUPPORT. The unwrap of a secret (R48), and the checks of INSTALL-KEY (R45 to R47). -/

namespace Sys2Proof.Machine

/-! ### The unwrap (R48) -/

theorem xorBytes_zeros {x : Bytes} {n : Nat} (h : x.length ≤ n) : xorBytes x (zeros n) = x := by
  induction x generalizing n with
  | nil => rfl
  | cons b x ih =>
    obtain ⟨m, rfl⟩ : ∃ m, n = m + 1 := ⟨n - 1, by simp at h; omega⟩
    have htail : xorBytes x (zeros m) = x := ih (by simpa using h)
    change (b ^^^ 0) :: xorBytes x (zeros m) = _
    rw [htail]
    exact congrArg (· :: x) BitVec.xor_zero

theorem bindingBlock_length (index phase : Nat) : (bindingBlock index phase).length = 16 := rfl

/-- R48 step 3: the four blocks of the chained encryption. -/
theorem chainEncrypt_blocks (kwk text : Bytes) (index phase : Nat) :
    chainEncrypt kwk 4 (bindingBlock index phase ++ text) (zeros 16)
      = aesEncrypt kwk (xorBytes (slice text 32 16) (aesEncrypt kwk (xorBytes (slice text 16 16)
          (aesEncrypt kwk (xorBytes (slice text 0 16) (aesEncrypt kwk (bindingBlock index phase))))))) := by
  have hdrop : (bindingBlock index phase ++ text).drop 16 = text := List.drop_left' (bindingBlock_length index phase)
  have htake : (bindingBlock index phase ++ text).take 16 = bindingBlock index phase := List.take_left' (bindingBlock_length index phase)
  simp only [chainEncrypt, hdrop, htake, xorBytes_zeros (bindingBlock_length index phase).le, slice, List.drop_zero, List.drop_drop]

/-! ### The fields of INSTALL-KEY (R45) -/

/-- R45 check 1. -/
theorem installLengthGood_iff (b : Bytes) : installLengthGood b = true ↔ (byteAt b 4 = 0 ∧ b.length = 54) ∨ (byteAt b 4 = 1 ∧ b.length = 46)
    ∨ (byteAt b 4 ≠ 0 ∧ byteAt b 4 ≠ 1 ∧ (b.length = 54 ∨ b.length = 46)) := by
  have h0 : ∀ x : Byte, x = 0 ↔ x.toNat = 0 := by decide
  have h1 : ∀ x : Byte, x = 1 ↔ x.toNat = 1 := by decide
  rw [installLengthGood, numAt_one, ne_eq, ne_eq, h0, h1]
  split
  next h => simp [h]
  next h => simp [h]
  next h h' => exact ⟨fun hl => .inr (.inr ⟨h, h', by simpa using hl⟩), fun hl => by
      obtain ⟨hx, -⟩ | ⟨hx, -⟩ | ⟨-, -, hl⟩ := hl
      · exact absurd hx h
      · exact absurd hx h'
      · simpa using hl⟩

theorem installFields_badLength {b : Bytes} (h : ¬ installLengthGood b = true) : installFields b = .error .badLength :=
  if_pos (by simpa using h)

theorem installFields_badIndex {b : Bytes} (h : installLengthGood b = true) (hi : 2047 < numAt b 0 2) :
    installFields b = .error .badIndex := by
  rw [installFields, if_neg (by simp [h]), toAssoc?_eq_none hi]

theorem installFields_badField {b : Bytes} (h : installLengthGood b = true) (hi : numAt b 0 2 ≤ 2047)
    (hf : 1 < (byteAt b 2).toNat ∨ 3 < (byteAt b 3).toNat ∨ 1 < (byteAt b 4).toNat) : installFields b = .error .badField := by
  rw [installFields, if_neg (by simp [h]), toAssoc?_of_eq (a := ⟨numAt b 0 2, by omega⟩) rfl]
  dsimp only
  split
  next hn hp hc =>
    rw [numAt_one] at hn hp hc
    obtain hf | hf | hf := hf
    · rw [yesNo?_eq_none hf] at hn; cases hn
    · rw [toLink?_eq_none hf] at hp; cases hp
    · rw [yesNo?_eq_none hf] at hc; cases hc
  next => rfl

theorem installFields_of_fields {b : Bytes} {a : AssocId} {toNxt clear : Bool} {p : Phase} (h : installLengthGood b = true)
    (ha : a.val = numAt b 0 2) (hn : byteAt b 2 = if toNxt then 1 else 0) (hp : p.val = (byteAt b 3).toNat)
    (hc : byteAt b 4 = if clear then 1 else 0) :
    installFields b = .ok { index := a, toNxt := toNxt, phase := p, clear := clear, secret := b.drop 6 } := by
  have hphase : toLink? (numAt b 3 1) = some p := toLink?_of_eq (by rw [numAt_one, hp])
  rw [installFields, if_neg (by simp [h]), toAssoc?_of_eq ha]
  simp only [yesNo?_numAt hn, hphase, yesNo?_numAt hc]

theorem State.installRequest_of_error {s : State} {q : Request} {why : Status} (h : installFields q.body = .error why) :
    State.installRequest q s = s.answerOnce why Flags.none [] := by simp only [State.installRequest, h]

theorem State.installRequest_of_fields {s : State} {q : Request} {f : InstallFields} (h : installFields q.body = .ok f) :
    State.installRequest q s = s.ifMeets q f.index (State.installChecked f) := by simp only [State.installRequest, h]

/-! ### The checks (R46) -/

theorem Record.refusesInstall_slot_iff (r : Record) (toNxt : Bool) : r.refusesInstall toNxt = true
    ↔ if toNxt then (r.state ≠ .live ∧ r.state ≠ .exhausted) ∨ r.nxt ≠ none else r.state ≠ .opened := by
  cases toNxt <;> simp [Record.refusesInstall, Option.isSome_iff_ne_none]

theorem slotHasPhase_iff (k : Option Key) (p : Phase) : slotHasPhase k p = true ↔ k.map Key.phase = some p := beq_iff_eq

theorem anyActive_iff (o : Option Purge) : o.any Purge.active = true ↔ ∃ pu, o = some pu ∧ pu.active = true := by
  cases o <;> simp

/-- R46: a refusal is the first check that fails. -/
theorem State.installCheck_of_refusal {s : State} {f : InstallFields} {why : Status}
    (h : if (∃ pu, s.bank.purge = some pu ∧ pu.active = true) ∨ s.bank.install ≠ none then why = .storeBusy
      else if s.bank.inPurge f.index = true then why = .inPurge
      else if (if f.toNxt then ((s.record f.index).state ≠ .live ∧ (s.record f.index).state ≠ .exhausted) ∨ (s.record f.index).nxt ≠ none
        else (s.record f.index).state ≠ .opened) then why = .badState
      else if (s.record f.index).cur.map Key.phase = some f.phase ∨ (s.record f.index).old.map Key.phase = some f.phase
        then why = .phaseInUse
      else if f.clear = true ∧ (s.device.wrapOnly = true ∨ s.prov.locked = true) then why = .clearRefused
      else f.clear = false ∧ s.prov.kwk = none ∧ why = .notProvisioned) : s.installCheck f = some why := by
  simp only [State.installCheck, anyActive_iff, Option.isSome_iff_ne_none, slotHasPhase_iff, Option.isNone_iff_eq_none]
  simp only [← Record.refusesInstall_slot_iff] at h
  split at h
  next hc => subst h; exact if_pos hc
  next hc =>
    rw [if_neg hc]
    split at h
    next hc => subst h; exact if_pos hc
    next hc =>
      rw [if_neg hc]
      split at h
      next hc => subst h; exact if_pos hc
      next hc =>
        rw [if_neg hc]
        split at h
        next hc => subst h; exact if_pos hc
        next hc =>
          rw [if_neg hc]
          split at h
          next hc => subst h; exact if_pos hc
          next hc =>
            obtain ⟨hform, hkwk, rfl⟩ := h
            rw [if_neg hc, if_pos ⟨hform, hkwk⟩]

/-- R46: a request that every check passes. -/
theorem State.installCheck_of_passes {s : State} {f : InstallFields} (hpurge : ∀ pu, s.bank.purge = some pu → pu.active = false ∧ pu.covers f.index = false)
    (hinstall : s.bank.install = none)
    (hstate : if f.toNxt then ((s.record f.index).state = .live ∨ (s.record f.index).state = .exhausted) ∧ (s.record f.index).nxt = none
      else (s.record f.index).state = .opened)
    (hphase : ∀ k, (s.record f.index).cur = some k ∨ (s.record f.index).old = some k → k.phase ≠ f.phase)
    (hform : if f.clear then s.device.wrapOnly = false ∧ s.prov.locked = false else s.prov.kwk ≠ none) : s.installCheck f = none := by
  have hslot : ∀ o : Option Key, (∀ k, o = some k → k.phase ≠ f.phase) → ¬ o.map Key.phase = some f.phase := by
    rintro (_ | k) h he
    · cases he
    · exact h k rfl (Option.some.inj he)
  have hbusy : ¬ ((∃ pu, s.bank.purge = some pu ∧ pu.active = true) ∨ s.bank.install ≠ none) := by
    rintro (⟨pu, hp, hact⟩ | h)
    · simp [(hpurge pu hp).1] at hact
    · exact h hinstall
  have hrange : ¬ s.bank.inPurge f.index = true := by
    rcases hp : s.bank.purge with _ | pu
    · simp [BankUnit.inPurge, hp]
    · simp [BankUnit.inPurge, hp, (hpurge pu hp).2]
  have hrec : ¬ (s.record f.index).refusesInstall f.toNxt = true := by simp [(Record.refusesInstall_iff _ _).2 hstate]
  have hkeys : ¬ ((s.record f.index).cur.map Key.phase = some f.phase ∨ (s.record f.index).old.map Key.phase = some f.phase) := by
    rintro (h | h)
    · exact hslot _ (fun k hk => hphase k (.inl hk)) h
    · exact hslot _ (fun k hk => hphase k (.inr hk)) h
  simp only [State.installCheck, anyActive_iff, Option.isSome_iff_ne_none, slotHasPhase_iff, Option.isNone_iff_eq_none]
  rw [if_neg hbusy, if_neg hrange, if_neg hrec, if_neg hkeys]
  split at hform
  next hc => rw [if_neg (by simp [hform]), if_neg (by simp [hc])]
  next hc => rw [if_neg (by simp [hc]), if_neg (by simp [hform])]

end Sys2Proof.Machine
end

section
/-! Certificates: the unwrap and INSTALL-KEY. -/

namespace Sys2Proof.Machine

/-- Settles O33. -/
theorem unwrapPassesOrFails : Obligations.UnwrapPassesOrFails := by
  refine ⟨?_, fun s => ⟨fun h => congrArg Host.Outcome.next ?_, ?_⟩⟩
  · rintro kwk integrity sealed index phase enc candidate text c1 c2 c3 c4 rfl rfl rfl rfl rfl rfl rfl
    have hcheck : ∀ candidate : Bytes, integrityOf kwk candidate index phase
        = (chainEncrypt kwk 4 (bindingBlock index phase ++ (candidate ++ zeros 8)) (zeros 16)).take 8 := fun candidate => by
      rw [integrityOf, List.append_assoc]
    simp only [unwrap, hcheck, chainEncrypt_blocks]
    rfl
  · unfold State.unwrapEnds
    split
    next i hi =>
      split
      next integrity sealed hstage => exact absurd hstage (h i integrity sealed hi)
      next => rfl
    next => rfl
  · rintro i integrity sealed kwk check hi hstage hkwk
    have hkey : (s.prov.kwk.map Prod.fst).getD [] = kwk := by rw [hkwk]; rfl
    refine ⟨fun key salt hpass => congrArg Host.Outcome.next ?_, fun hfail q rest hreq => congrArg Host.Outcome.next ?_⟩
    · simp only [State.unwrapEnds, hi, hstage, hkey, hpass]
    · simp only [State.unwrapEnds, hi, hstage, hkey, hfail]
      exact answerOnce_pump (s := (s.setRecord i.index ((s.record i.index).setTarget i.toNxt none)).endInstall i .unwrapFailed)
        (rest := rest) hreq .unwrapFailed Flags.none []

/-- Settles O32. -/
theorem installKeyIsTakenOrRefused : Obligations.InstallKeyIsTakenOrRefused := by
  refine ⟨?_, ?_⟩
  · rintro s q rest ⟨hb, hrun, hcode, h7⟩ b good
    have hgood : installLengthGood b = true ↔ good := installLengthGood_iff b
    have hanswer : ∀ {u : State} {why : Status}, State.installRequest q s = u.answerOnce why Flags.none [] → u.control = s.control →
        exec .installKey s = .next (u.withControl (s.control.replied q why Flags.none [])) := fun hact hu =>
      congrArg Host.Outcome.next ((runOnce_of_cond hb hrun hcode h7 false _).trans
        (by rw [hact, answerOnce_pump (hu ▸ hb.1), hu]))
    refine ⟨fun h => hanswer (u := s) ?_ rfl, fun h hi => hanswer (u := s) ?_ rfl, fun h hi hf => hanswer (u := s) ?_ rfl, ?_⟩
    · exact State.installRequest_of_error (installFields_badLength (mt hgood.1 h))
    · exact State.installRequest_of_error (installFields_badIndex (hgood.2 h) hi)
    · exact State.installRequest_of_error (installFields_badField (hgood.2 h) hi hf)
    · rintro a toNxt clear p s1 r h ha hn hp hc hs1 rfl
      have hfields := installFields_of_fields (hgood.2 h) ha hn hp hc
      have hcontrol : s1.control = s.control := hs1 ▸ s.afterTest_control a q.cond
      obtain ⟨-, hbank, htables, -⟩ := s.afterTest_frame a q.cond
      rw [← hs1] at hbank htables
      obtain ⟨-, -, -, -, hdevice, hprov⟩ := State.tables_eq_iff.1 htables
      refine ⟨fun hfalse => hanswer (u := s1) ?_ hcontrol, fun hmeets why hwhy => hanswer (u := s1) ?_ hcontrol⟩
      · rw [State.installRequest_of_fields hfields, State.ifMeets_of_false hfalse, ← hs1]
      · rw [← hbank, ← hdevice, ← hprov] at hwhy
        have hcheck := State.installCheck_of_refusal (s := s1)
          (f := { index := a, toNxt := toNxt, phase := p, clear := clear, secret := b.drop 6 }) hwhy
        rw [State.installRequest_of_fields hfields, State.ifMeets_of_true hmeets, ← hs1]
        simp only [State.installChecked, hcheck]
  · rintro s q rest a toNxt clear p secret unused s1 r ⟨hb, hrun, hcode, h7⟩ hlen hbody hs1 hr hmeets hpurge hinstall hstate hphase hform
      stage rfl
    have hsize : q.body.length = if clear then 46 else 54 := by
      rw [hbody]
      cases clear <;> simp_all [u16_length, u8_length, yesNo]
    have hfields : installFields q.body = .ok { index := a, toNxt := toNxt, phase := p, clear := clear, secret := secret } := by
      have h4 : byteAt q.body 4 = if clear then 1 else 0 := by rw [hbody]; rfl
      have hgood : installLengthGood q.body = true := by
        rw [installLengthGood_iff, hsize, h4]
        cases clear <;> simp
      rw [installFields_of_fields (a := a) (toNxt := toNxt) (clear := clear) (p := p) hgood ?_ ?_ ?_ h4]
      · rw [hbody]; rfl
      · rw [hbody]; exact (numAt_assoc a).symm
      · rw [hbody]; rfl
      · rw [hbody]; exact (by decide : ∀ p : Phase, p.val = (BitVec.ofNat 8 (p.val / 256 ^ 0)).toNat) p
    obtain ⟨-, hbank, htables, -⟩ := s.afterTest_frame a q.cond
    have hcontrol : s1.control = s.control := hs1 ▸ s.afterTest_control a q.cond
    rw [← hs1] at hbank htables
    obtain ⟨-, -, -, -, hdevice, hprov⟩ := State.tables_eq_iff.1 htables
    have hcheck : s1.installCheck { index := a, toNxt := toNxt, phase := p, clear := clear, secret := secret } = none :=
      State.installCheck_of_passes (by rw [hbank]; exact hpurge) (by rw [hbank]; exact hinstall) (hr ▸ hstate) (hr ▸ hphase)
        (by rw [hdevice, hprov]; exact hform)
    have hstage : ({ index := a, toNxt := toNxt, phase := p, clear := clear, secret := secret } : InstallFields).stage
        = if clear then .expanding (secret.take 32) (secret.drop 32) else .unwrapping (secret.take 8) (secret.drop 8) := by
      cases clear
      · simp_all [InstallFields.stage, slice]
      · simp_all [InstallFields.stage, slice]
    refine ⟨_, congrArg Host.Outcome.next ((runOnce_of_cond hb hrun hcode h7 false _).trans ?_), rfl, ?_, ?_⟩
    · rw [State.installRequest_of_fields hfields, State.ifMeets_of_true hmeets, ← hs1]
      simp only [State.installChecked, hcheck, State.takeInstall, hstage]
      rw [← hr, ← hbank, ← hcontrol]
      rfl
    · exact (BankUnit.stateOf_installing_iff _ _).2 ⟨_, rfl, rfl⟩
    · rw [Bool.eq_false_iff, ne_eq, BankUnit.ready_iff]
      rintro ⟨h, -⟩
      cases h

end Sys2Proof.Machine
end

section
/-! SUPPORT. The release of a hold, entry by entry (R67 to R70, R80). -/

namespace Sys2Proof.Machine

/-- R67 to R70: the key after the release of one entry of charge `b`, and the notice that comes of it. -/
def Key.released (r : Record) (k : Key) (b : Nat) : Key :=
  if (softTestMet r.params (k.charge b) k.n).isSome then { k.charge b with crossed := true, soft := true } else k.charge b

/-- R80: an entry of the hold. -/
theorem releaseHeld_cons {a : AssocId} (r : Record) {e : Entry} (rest : List Entry) (k : Key) (h : e.isHeldOf a = true) :
    releaseHeld a r (e :: rest) k
      = ({ e with state := .waiting, pn := some k.n, key := some k.phase } :: (releaseHeld a r rest (k.released r e.env.charge)).1,
         (releaseHeld a r rest (k.released r e.env.charge)).2.1,
         ((softTestMet r.params (k.charge e.env.charge) k.n).map (softNotice a r (k.charge e.env.charge) k.n)).toList
           ++ (releaseHeld a r rest (k.released r e.env.charge)).2.2.1,
         (releaseHeld a r rest (k.released r e.env.charge)).2.2.2 + 1) := by
  simp only [releaseHeld, h, if_true]
  rfl

/-- R67, R70: what a release leaves of a key. -/
theorem Key.released_frame (r : Record) (k : Key) (b : Nat) : (k.released r b).phase = k.phase ∧ (k.released r b).check = k.check
    ∧ (k.released r b).material = k.material ∧ (k.released r b).inFlight = k.inFlight + 1 ∧ (k.released r b).u = k.u + b
    ∧ (k.released r b).n = (k.charge b).n ∧ (k.released r b).state = (k.charge b).state := by
  unfold Key.released
  split <;> exact ⟨rfl, rfl, rfl, rfl, rfl, rfl, rfl⟩

/-- R70: a key that has crossed meets no further test. -/
theorem softTestMet_of_crossed (p : AssocParams) {k : Key} (pn : Nat) (h : k.crossed = true) : softTestMet p k pn = none := by
  simp [softTestMet, h]

theorem Key.released_of_crossed (r : Record) {k : Key} (b : Nat) (h : k.crossed = true) : (k.released r b).crossed = true := by
  unfold Key.released
  split
  · rfl
  · exact h

theorem Key.released_of_met (r : Record) {k : Key} {b : Nat} (h : (softTestMet r.params (k.charge b) k.n).isSome = true) :
    (k.released r b).crossed = true := by
  rw [Key.released, if_pos h]

theorem releaseHeld_key_check (a : AssocId) (r : Record) (q : List Entry) (k : Key) : (releaseHeld a r q k).2.1.check = k.check := by
  induction q generalizing k with
  | nil => rfl
  | cons e rest ih =>
    rcases hheld : e.isHeldOf a
    · rw [releaseHeld_cons_other r rest k hheld]
      exact ih k
    · rw [releaseHeld_cons r rest k hheld]
      exact (ih _).trans (k.released_frame r e.env.charge).2.1

/-- R70, R80: one SOFT-LIMIT notice at most comes of a release, and none when the key has crossed. -/
theorem releaseHeld_notices (a : AssocId) (r : Record) (q : List Entry) (k : Key) :
    (releaseHeld a r q k).2.2.1.length ≤ 1 ∧ (k.crossed = true → (releaseHeld a r q k).2.2.1 = []) := by
  induction q generalizing k with
  | nil => exact ⟨Nat.zero_le _, fun _ => rfl⟩
  | cons e rest ih =>
    rcases hheld : e.isHeldOf a
    · rw [releaseHeld_cons_other r rest k hheld]
      exact ih k
    · rw [releaseHeld_cons r rest k hheld]
      obtain ⟨hle, hnone⟩ := ih (k.released r e.env.charge)
      dsimp only
      rcases hmet : softTestMet r.params (k.charge e.env.charge) k.n with _ | t
      · refine ⟨by simpa using hle, fun hc => ?_⟩
        simpa using hnone (k.released_of_crossed r e.env.charge hc)
      · rw [hnone (Key.released_of_met r (by rw [hmet]; rfl))]
        refine ⟨by simp, fun hc => ?_⟩
        rw [softTestMet_of_crossed r.params (k := k.charge e.env.charge) k.n hc] at hmet
        cases hmet

/-- R80: how many entries are released, and what that makes of the key: consecutive numbers while they last. -/
theorem releaseHeld_key {a : AssocId} (r : Record) (q : List Entry) {k : Key} (hs : k.state = .inUse)
    (hroom : k.n + (q.filter (Entry.isHeldOf a)).length ≤ 0xFFFFFFFF) :
    (releaseHeld a r q k).2.2.2 = (q.filter (Entry.isHeldOf a)).length
      ∧ (releaseHeld a r q k).2.1.n = k.n + (q.filter (Entry.isHeldOf a)).length
      ∧ (releaseHeld a r q k).2.1.inFlight = k.inFlight + (q.filter (Entry.isHeldOf a)).length
      ∧ (releaseHeld a r q k).2.1.state = .inUse ∧ (releaseHeld a r q k).2.1.material = k.material
      ∧ (releaseHeld a r q k).2.1.u = k.u + ((q.filter (Entry.isHeldOf a)).map fun e => e.env.charge).sum := by
  induction q generalizing k with
  | nil => exact ⟨rfl, rfl, rfl, hs, rfl, rfl⟩
  | cons e rest ih =>
    rcases hheld : e.isHeldOf a
    · rw [releaseHeld_cons_other r rest k hheld]
      simp only [List.filter_cons, hheld, Bool.false_eq_true, if_false] at hroom ⊢
      exact ih hs hroom
    · rw [releaseHeld_cons r rest k hheld]
      simp only [List.filter_cons, hheld, if_true, List.length_cons, List.map_cons, List.sum_cons] at hroom ⊢
      obtain ⟨-, -, hmaterial, hflight, hu, hn, hstate⟩ := k.released_frame r e.env.charge
      obtain ⟨hn', hs'⟩ : (k.charge e.env.charge).n = k.n + 1 ∧ (k.charge e.env.charge).state = k.state := by
        have hlast : k.n ≠ Config.pnMax := by
          simp only [Config.pnMax]
          omega
        simp only [Key.charge, if_neg hlast, and_self]
      rw [hn'] at hn
      obtain ⟨h1, h2, h3, h4, h5, h6⟩ := ih (k := k.released r e.env.charge) (by rw [hstate, hs', hs]) (by omega)
      exact ⟨by omega, by omega, by omega, h4, h5.trans hmaterial, by rw [h6, hu, Nat.add_assoc]⟩

/-- R80: what becomes of each entry of the queue. -/
theorem releaseHeld_entries {a : AssocId} (r : Record) (q : List Entry) {k : Key}
    (hroom : k.n + (q.filter (Entry.isHeldOf a)).length ≤ 0xFFFFFFFF) (i : Nat) (h : i < q.length)
    (h' : i < (releaseHeld a r q k).1.length) :
    (releaseHeld a r q k).1[i] = if q[i].isHeldOf a then
        { q[i] with state := .waiting, pn := some (k.n + ((q.take i).filter (Entry.isHeldOf a)).length), key := some k.phase }
      else q[i] := by
  induction q generalizing k i with
  | nil => simp at h
  | cons e rest ih =>
    rcases hheld : e.isHeldOf a
    · simp only [releaseHeld_cons_other r rest k hheld] at h' ⊢
      simp only [List.filter_cons, hheld, Bool.false_eq_true, if_false] at hroom
      rcases i with _ | i
      · simp [hheld]
      · simp only [List.getElem_cons_succ, List.take_succ_cons, List.filter_cons, hheld, Bool.false_eq_true, if_false]
        exact ih hroom i _ _
    · simp only [releaseHeld_cons r rest k hheld] at h' ⊢
      simp only [List.filter_cons, hheld, if_true, List.length_cons] at hroom
      rcases i with _ | i
      · simp [hheld]
      · obtain ⟨hphase, -, -, -, -, hn, -⟩ := k.released_frame r e.env.charge
        have hn' : (k.charge e.env.charge).n = k.n + 1 := by
          have hlast : k.n ≠ Config.pnMax := by
            simp only [Config.pnMax]
            omega
          simp only [Key.charge, if_neg hlast]
        rw [hn'] at hn
        simp only [List.getElem_cons_succ, List.take_succ_cons, List.filter_cons, hheld, if_true, List.length_cons]
        rw [ih (k := k.released r e.env.charge) (by omega) i (by simpa using h) (by simpa using h'), hn, hphase, Nat.add_assoc,
          Nat.add_comm 1]

/-- R83: a ROLLOVER whose record and staged key are ready for it. -/
theorem State.rolloverChecked_of_ready {s : State} {a : AssocId} (hstate : (s.record a).state = .live ∨ (s.record a).state = .exhausted)
    (hdir : (s.record a).dir = .egress) (hready : slotIs (s.record a).nxt .ready = true) : State.rolloverChecked a s
      = if (s.record a).old.isSome then s.answerOnce .retiringBusy Flags.none []
        else (s.rollEgress a .request).answerOnce .ok Flags.none (rolloverBody ((s.rollEgress a .request).record a)) := by
  have hfit : ¬ (((s.record a).state ≠ .live ∧ (s.record a).state ≠ .exhausted) ∨ (s.record a).dir = .ingress) := by
    rintro (⟨h1, h2⟩ | h)
    · exact hstate.elim h1 h2
    · rw [hdir] at h; cases h
  rw [State.rolloverChecked]
  dsimp only
  rw [if_neg hfit, if_neg (by simp [hready])]

end Sys2Proof.Machine
end

section
/-! Certificates: the release of a hold, and ROLLOVER. -/

namespace Sys2Proof.Machine

/-- Settles O29. -/
theorem heldEntriesAreReleasedInOrder : Obligations.HeldEntriesAreReleasedInOrder := by
  rintro a r q k hs - hroom q' k' notes count hrel
  obtain ⟨rfl, rfl, rfl, rfl⟩ : q' = (releaseHeld a r q k).1 ∧ k' = (releaseHeld a r q k).2.1 ∧ notes = (releaseHeld a r q k).2.2.1
      ∧ count = (releaseHeld a r q k).2.2.2 := by rw [hrel]; exact ⟨rfl, rfl, rfl, rfl⟩
  obtain ⟨hcount, hn, hflight, hstate, hmaterial, hu⟩ := releaseHeld_key (a := a) r q hs hroom
  obtain ⟨hnotices, hcrossed⟩ := releaseHeld_notices a r q k
  exact ⟨(releaseHeld_queue a r q k).1, releaseHeld_entries r q hroom, hcount, by rw [hn, hcount], by rw [hflight, hcount], hstate,
    releaseHeld_key_phase a r q k, hmaterial, hu, hnotices, hcrossed⟩

/-- Settles O30. -/
theorem rolloverRequestRollsOver : Obligations.RolloverRequestRollsOver := by
  rintro s q rest h hlen
  have hrun : ∀ {u : State} {st : Status} {fl : Flags} {body : Bytes}, State.rolloverRequest q s = u.answerOnce st fl body →
      u.control = s.control → exec .rollover s = .next (u.withControl (s.control.replied q st fl body)) := fun hact hu =>
    congrArg Host.Outcome.next (runOnce_of_condAnswer (act := State.rolloverRequest) h hlen hact hu false)
  refine ⟨fun hindex => hrun (u := s) (by simp only [State.rolloverRequest, toAssoc?_eq_none hindex]) rfl, ?_⟩
  rintro a s1 r ha hs1 rfl
  have hcontrol : s1.control = s.control := hs1 ▸ s.afterTest_control a q.cond
  have hroll : State.rolloverRequest q s = s.ifMeets q a (State.rolloverChecked a) := by
    simp only [State.rolloverRequest, toAssoc?_of_eq ha]
  refine ⟨fun hfalse => hrun (hroll.trans (hs1 ▸ State.ifMeets_of_false hfalse _)) hcontrol, fun hmeets => ?_⟩
  have hchecked : State.rolloverRequest q s = State.rolloverChecked a s1 := hroll.trans (hs1 ▸ State.ifMeets_of_true hmeets _)
  obtain ⟨hlinks, -⟩ := s.afterTest_frame a q.cond
  rw [← hs1] at hlinks
  refine ⟨fun hbad => hrun (u := s1) (hchecked.trans ?_) hcontrol, fun c k hstate hdir hcur hnxt hready => ⟨fun hold => ?_, ?_⟩⟩
  · unfold State.rolloverChecked
    dsimp only
    split
    · rfl
    next hfit =>
      refine if_pos (Bool.eq_false_iff.2 fun hslot => ?_)
      obtain ⟨x, hx, hxs⟩ := slotIs_iff.1 hslot
      obtain h1 | h1 | h1 := hbad
      · exact hfit (.inl h1)
      · exact hfit (.inr h1)
      · exact h1 x hx hxs
  · refine hrun (u := s1) (hchecked.trans ?_) hcontrol
    rw [State.rolloverChecked_of_ready hstate hdir (slotIs_iff.2 ⟨k, hnxt, hready⟩), if_pos (Option.isSome_iff_ne_none.2 hold)]
  · rintro hold r1 queue k1 notes count hr1 hrel
    have hpath : s.path .egress (s1.record a).link = s1.path .egress (s1.record a).link := by
      rw [State.path, State.link, ← hlinks]; rfl
    rw [hpath, hr1] at hrel
    have heq := s1.rollEgress_eq a .request hcur hnxt hrel
    have hk1 : k1 = (releaseHeld a ((s1.record a).rollEgress c k) (s1.path .egress (s1.record a).link).queue k.enterService).2.1 :=
      (congrArg (fun x : List Entry × Key × List Notice × Nat => x.2.1) hrel).symm
    have hphase : k1.phase = k.phase := hk1 ▸ releaseHeld_key_phase _ _ _ _
    have hcheck : k1.check = k.check := hk1 ▸ releaseHeld_key_check _ _ _ _
    obtain ⟨u, hu⟩ : ∃ u, u = s1.rollEgress a .request := ⟨_, rfl⟩
    have hbody : rolloverBody (u.record a) = u8 r1.generation ++ u8 k.phase.val ++ k.check := by
      have hrec : u.record a = { (s1.record a).rollEgress c k with cur := some k1 } := by
        rw [hu, heq, State.record_withControl]
        exact State.record_setRecord_same _ _ _
      rw [hrec, hr1, ← hcheck, ← hphase]
      rfl
    have hrequests : u.control.requests = q :: rest := by
      rw [hu, heq, ← h.1.1, ← hcontrol]
      exact ((Control.quiet_notifyAll _ _).trans (Control.quiet_notify _ _)).requests
    have hact : State.rolloverRequest q s = u.answerOnce .ok Flags.none (u8 r1.generation ++ u8 k.phase.val ++ k.check) := by
      rw [hchecked, State.rolloverChecked_of_ready hstate hdir (slotIs_iff.2 ⟨k, hnxt, hready⟩), if_neg (by simp [hold]), ← hu, hbody]
    obtain ⟨hb, hrunning, hcode, h7⟩ := h
    refine congrArg Host.Outcome.next ((runOnce_of_cond hb hrunning hcode h7 false _).trans ?_)
    rw [withBody_of_length hlen, hact, answerOnce_pump hrequests, hu, heq, hr1, ← hcontrol]
    rfl

end Sys2Proof.Machine
end

section
/-! SUPPORT. The key usage decision: the hold, the charge with its soft test, and what follows when the CUR key cannot take a frame
(R65 to R79). -/

namespace Sys2Proof.Machine

/-! ### The soft test (R69, R70) -/

theorem softTestMet_eq_none {p : AssocParams} {k : Key} {pn : Nat} (h : k.crossed = true ∨ (pn < p.softPn ∧ k.u < p.cap - p.cap / 8)) :
    softTestMet p k pn = none := by
  obtain h | ⟨h1, h2⟩ := h
  · exact softTestMet_of_crossed p pn h
  · rw [softTestMet, decide_eq_false (Nat.not_le.2 h1), decide_eq_false (Nat.not_le.2 h2)]
    exact ite_self _

theorem softTestMet_eq_some {p : AssocParams} {k : Key} {pn : Nat} (hc : k.crossed = false) (h : p.softPn ≤ pn ∨ p.cap - p.cap / 8 ≤ k.u) :
    ∃ t, softTestMet p k pn = some t ∧ (t = .pn ↔ k.u < p.cap - p.cap / 8) ∧ (t = .blocks ↔ pn < p.softPn) := by
  rw [softTestMet, if_neg (by simp [hc])]
  by_cases h1 : p.softPn ≤ pn
  · by_cases h2 : p.cap - p.cap / 8 ≤ k.u
    · exact ⟨.both, by rw [decide_eq_true h1, decide_eq_true h2], by simpa using h2, by simpa using h1⟩
    · exact ⟨.pn, by rw [decide_eq_true h1, decide_eq_false h2], by simpa only [true_iff, not_le] using h2, by simpa using h1⟩
  · have h2 : p.cap - p.cap / 8 ≤ k.u := h.resolve_left h1
    exact ⟨.blocks, by rw [decide_eq_false h1, decide_eq_true h2], by simpa using h2, by simpa using h1⟩

/-- R69: the test of a state whose record has key `k` in CUR. -/
theorem State.softTest_of_none {s : State} {a : AssocId} {k : Key} {pn : Nat} (hk : (s.record a).cur = some k)
    (h : softTestMet (s.record a).params k pn = none) : s.softTest a pn = s := by simp only [State.softTest, hk, h]

theorem State.softTest_of_some {s : State} {a : AssocId} {k : Key} {pn : Nat} {t : SoftTest} (hk : (s.record a).cur = some k)
    (h : softTestMet (s.record a).params k pn = some t) : s.softTest a pn
      = if (s.record a).params.autoRollover ∧ slotIs (s.record a).nxt .ready ∧ (s.record a).old.isNone
        then (s.setRecord a { s.record a with cur := some { k with crossed := true } }).rollEgress a .soft
        else (s.setRecord a { s.record a with cur := some { k with crossed := true, soft := true } }).notify
          (softNotice a (s.record a) k pn t) := by simp only [State.softTest, hk, h]

/-! ### The charge (R66 to R68) -/

/-- R66 to R68: the charge as one append and one write of the record. -/
theorem State.dispatchUnderCur_eq {s : State} {n : LinkId} {a : AssocId} {e : Entry} {c : Key} (hc : (s.record a).cur = some c) :
    s.dispatchUnderCur n a e = ((s.append .egress n { e with state := .waiting, pn := some c.n, key := some c.phase }).setRecord a
      { s.record a with cur := some (c.charge e.env.charge) }).softTest a c.n := by
  rw [State.dispatchUnderCur, s.takeUnderCur_eq n a e hc, hc]
  rfl

theorem Record.usable_iff {r : Record} {c : Key} (hc : r.cur = some c) (b : Nat) :
    r.usable b = true ↔ c.state = .inUse ∧ c.u + b ≤ 2 ^ r.params.capExp := by
  simp only [Record.usable, hc, AssocParams.cap, Bool.and_eq_true, beq_iff_eq]
  exact and_congr_right fun _ => decide_eq_true_iff

/-! ### The decision (R65, R74 to R76) -/

theorem State.keyUse_of_held {s : State} {n : LinkId} {a : AssocId} (e : Entry) (h : (s.path .egress n).queue.any (Entry.isHeldOf a) = true) :
    s.keyUse n a e = s.holdEntry n a e := if_pos h

theorem State.keyUse_of_usable {s : State} {n : LinkId} {a : AssocId} {e : Entry} {c : Key}
    (h : (s.path .egress n).queue.any (Entry.isHeldOf a) = false) (hc : (s.record a).cur = some c) (hs : (s.record a).state ≠ .exhausted)
    (hi : c.state = .inUse) (hu : c.u + e.env.charge ≤ 2 ^ (s.record a).params.capExp) :
    s.keyUse n a e = (s.dispatchUnderCur n a e, none) := by
  rw [State.keyUse]
  rw [if_neg (by simp [h]), if_pos ⟨hs, (Record.usable_iff hc _).2 ⟨hi, hu⟩⟩]

theorem State.keyUse_of_unusable {s : State} {n : LinkId} {a : AssocId} {e : Entry} {c : Key}
    (h : (s.path .egress n).queue.any (Entry.isHeldOf a) = false) (hc : (s.record a).cur = some c)
    (hs : (s.record a).state = .exhausted ∨ c.state ≠ .inUse ∨ 2 ^ (s.record a).params.capExp < c.u + e.env.charge) :
    s.keyUse n a e = s.cannotTake n a e := by
  have hun : ¬ ((s.record a).state ≠ .exhausted ∧ (s.record a).usable e.env.charge = true) := by
    rintro ⟨h1, h2⟩
    obtain ⟨h3, h4⟩ := (Record.usable_iff hc _).1 h2
    obtain hs | hs | hs := hs
    · exact h1 hs
    · exact hs h3
    · omega
  rw [State.keyUse]
  rw [if_neg (by simp [h]), if_neg hun]

end Sys2Proof.Machine
end

section
/-! Certificates: the key usage decision. -/

namespace Sys2Proof.Machine

/-- Settles O50. -/
theorem keyUsageDecides : Obligations.KeyUsageDecides := by
  rintro s n a e r c b held holdOf rfl hc rfl hheld hholdOf
  have hhold : ∀ u : State, (u.record a).params = (s.record a).params → u.links = s.links → u.now = s.now →
      u.holdEntry n a e = holdOf u := by
    intro u hparams hlinks hnow
    have hpath : u.path .egress n = s.path .egress n := by rw [State.path, State.link, hlinks]; rfl
    have hlink : u.params n = s.params n := by rw [State.params, State.link, hlinks]; rfl
    rw [hholdOf, State.holdEntry, hparams, hpath, hlink, hnow]
    rfl
  refine ⟨fun h => ?_, fun h hs hi hu k s1 hk hs1 => ?_, fun h hun => ?_⟩
  · rw [State.keyUse_of_held e (hheld ▸ h), hhold s rfl rfl rfl]
  · have hcharge : c.charge e.env.charge = k := by
      rw [hk, Key.charge, hi]
      rfl
    obtain ⟨u, hu'⟩ : ∃ u, u = s1.setRecord a { s.record a with cur := some k } := ⟨_, rfl⟩
    have hrec : u.record a = { s.record a with cur := some k } := hu' ▸ State.record_setRecord_same _ _ _
    have hcur : (u.record a).cur = some k := by rw [hrec]
    have huse : s.keyUse n a e = (u.softTest a c.n, none) := by
      rw [State.keyUse_of_usable (hheld ▸ h) hc hs hi hu, State.dispatchUnderCur_eq hc, hcharge, ← hs1, hu']
    have hcrossed : k.crossed = c.crossed := by rw [hk]
    have hparams : (u.record a).params = (s.record a).params := by rw [hrec]
    refine ⟨fun hno => ?_, fun hc0 hmet => ⟨fun ⟨hauto, hold, hready⟩ => ?_, fun hnot => ?_⟩⟩
    · rw [huse, State.softTest_of_none hcur (softTestMet_eq_none (by rw [hparams, hcrossed]; exact hno)), hu']
    · obtain ⟨t, ht, -, -⟩ := softTestMet_eq_some (p := (s.record a).params) (hcrossed.trans hc0) hmet
      rw [huse, State.softTest_of_some hcur (hparams ▸ ht), if_pos (by rw [hrec]; exact ⟨hauto, slotIs_iff.2 hready, by simp [hold]⟩), hrec,
        hu', State.setRecord_setRecord]
    · obtain ⟨t, ht, hpn, hblocks⟩ := softTestMet_eq_some (p := (s.record a).params) (hcrossed.trans hc0) hmet
      refine ⟨t, ?_, hpn, hblocks⟩
      have hroll : ¬ ((u.record a).params.autoRollover = true ∧ slotIs (u.record a).nxt .ready = true ∧ (u.record a).old.isNone = true) := by
        rw [hrec]
        rintro ⟨h1, h2, h3⟩
        exact hnot ⟨h1, by simpa using h3, slotIs_iff.1 h2⟩
      rw [huse, State.softTest_of_some hcur (hparams ▸ ht), if_neg hroll, hrec, hu', State.setRecord_setRecord, softNotice, hk]
  · rw [State.keyUse_of_unusable (hheld ▸ h) hc hun]
    refine ⟨fun hnxt => ?_, fun x hx => ⟨fun hs hready hold => ?_, fun hno => ?_⟩⟩
    · rw [State.cannotTake]
      rw [if_pos (by simp [hnxt]), State.exhaust]
      simp only [hc, State.wantRollover]
      rfl
    · have hroll : (s.record a).canRoll = true := (Record.canRoll_iff _).2 ⟨hs, by simp [hc], slotIs_iff.2 ⟨x, hx, hready⟩, hold⟩
      rw [State.cannotTake]
      rw [if_neg (by simp [hx]), if_pos hroll]
    · have hroll : ¬ (s.record a).canRoll = true := fun hroll => by
        obtain ⟨-, -, hready, hold⟩ := (Record.canRoll_iff _).1 hroll
        obtain ⟨y, hy, hys⟩ := slotIs_iff.1 hready
        obtain rfl : x = y := Option.some.inj (hx.symm.trans hy)
        exact hno.elim (absurd hys) (absurd hold)
      rw [State.cannotTake]
      rw [if_neg (by simp [hx]), if_neg hroll]
      exact hhold _ (by rw [State.wantRollover, State.record_setRecord_same]) rfl rfl

end Sys2Proof.Machine
end

section
/-! SUPPORT. The envelope values (R8 to R10), the dispatch (R64, R65) and the cover generator's attempts (R157, R159). -/

namespace Sys2Proof.Machine

/-! ### Envelope values (R8 to R10) -/

/-- R9, R10: the AAD is always two blocks. -/
theorem envValues_eq (x : Bool) (plain z : Nat) (padded : Bool) (ct : Nat) : envValues x plain z padded ct
    = { x := x, plain := plain, z := z, padded := padded, ctLen := ct, envLen := ct + 42 + tagBytes x, charge := (ct + 15) / 16 + 4 } := by
  have hcharge : ceilDiv (22 + tagBytes x) 16 + ceilDiv ct 16 + 2 = (ct + 15) / 16 + 4 := by
    cases x <;> simp only [ceilDiv, tagBytes, Bool.false_eq_true, if_true, if_false] <;> omega
  rw [envValues, hcharge]

theorem envelopeOf_zero (len m : Nat) (x : Bool) : envelopeOf len x 0 m
    = if len - 16 - tagBytes x + 42 + tagBytes x ≤ m then
        some (envValues x (len - 16 - tagBytes x) 0 false (len - 16 - tagBytes x), false) else none := by
  rw [envelopeOf]
  exact if_pos rfl

/-- R8, R9: `whole` is the least multiple of the quantum that takes P and the trailer. -/
theorem envelopeOf_quantum {len q m p whole : Nat} {x : Bool} (hp : p = len - 16 - tagBytes x) (hq : 0 < q) (hdvd : q ∣ whole)
    (hroom : p + 2 ≤ whole) (hleast : ∀ t, q ∣ t → p + 2 ≤ t → whole ≤ t) : envelopeOf len x q m
    = if whole + 42 + tagBytes x ≤ m then some (envValues x p (whole - p - 2) true whole, false)
      else if p + 44 + tagBytes x ≤ m then
        some (envValues x p (m - 44 - tagBytes x - p) true (p + 2 + (m - 44 - tagBytes x - p)), true)
      else none := by
  have hwhole : ceilDiv (p + 2) q * q = whole :=
    le_antisymm (ceilDiv_mul_le_of_dvd hq hdvd hroom) (hleast _ (Nat.dvd_mul_left q _) (le_ceilDiv_mul hq _))
  subst hp
  rw [envelopeOf, if_neg hq.ne']
  simp only [hwhole]

/-! ### The dispatch (R64, R65) -/

theorem State.path_countReduced (s : State) (n : LinkId) (reduced : Bool) :
    ((s.countReduced n reduced).path .egress n).free = (s.path .egress n).free := by
  unfold State.countReduced
  split
  · simp
  · rfl

theorem State.dispatch_of_none {s : State} {n : LinkId} {a : AssocId} {kind : EntryKind} {len own : Nat} {x : Bool} {code : Nat}
    {data : Bytes} (h : envelopeOf len x (s.record a).params.quantum (s.params n).campusMax = none) :
    s.dispatch n a kind len own x code data = (s.dropFrame .egress n .tooLarge own, some .tooLarge) := by
  simp only [State.dispatch, h]

theorem State.dispatch_of_few {s : State} {n : LinkId} {a : AssocId} {kind : EntryKind} {len own : Nat} {x : Bool} {code : Nat}
    {data : Bytes} {v : EnvValues} {reduced : Bool}
    (h : envelopeOf len x (s.record a).params.quantum (s.params n).campusMax = some (v, reduced))
    (hfew : (s.path .egress n).free < cellsFor v.envLen - own) : s.dispatch n a kind len own x code data
      = ((s.countReduced n reduced).dropFrame .egress n .noBuffer own, some .noBuffer) := by
  simp only [State.dispatch, h, State.path_countReduced]
  exact if_pos hfew

theorem State.dispatch_of_room {s t : State} {n : LinkId} {a : AssocId} {kind : EntryKind} {len own : Nat} {x : Bool} {code : Nat}
    {data : Bytes} {v : EnvValues} {reduced : Bool} {why : Option Reason}
    (h : envelopeOf len x (s.record a).params.quantum (s.params n).campusMax = some (v, reduced))
    (hroom : cellsFor v.envLen - own ≤ (s.path .egress n).free)
    (huse : ((s.countReduced n reduced).takeCells .egress n (cellsFor v.envLen - own)).keyUse n a
      (newEntry kind a v (max own (cellsFor v.envLen)) code data) = (t, why)) :
    s.dispatch n a kind len own x code data
      = (why.elim t fun w => t.dropFrame .egress n w (max own (cellsFor v.envLen)), why) := by
  simp only [State.dispatch, h, State.path_countReduced]
  rw [if_neg (Nat.not_lt.2 hroom), huse]
  rcases why with _ | why <;> rfl

/-! ### Cover entries (R157, R159) -/

theorem State.coverOutcome_of_cause {t : State} {n : LinkId} {why : Reason} {cause : StallCause} (h : stallCauseOf why = some cause) :
    t.coverOutcome n (some why) = t.stall n cause := by simp only [State.coverOutcome, h]

theorem State.formCover_of_unbound {s : State} {n : LinkId} {a : AssocId} {why : Reason} (h : bindEgress (s.record a) n = some why) :
    s.formCover n a = ((s.countFormed n).countDrop .egress n why 1).coverOutcome n (some why) := by
  have hb : bindEgress ((s.countFormed n).record a) n = some why := h
  simp only [State.formCover, hb]

theorem State.formCover_of_bound {s t : State} {n : LinkId} {a : AssocId} {why : Option Reason} (h : bindEgress (s.record a) n = none)
    (hd : (s.countFormed n).dispatch n a .cover (s.params n).coverLen 0 false (s.params n).coverCode [] = (t, why)) :
    s.formCover n a = t.coverOutcome n why := by
  have hb : bindEgress ((s.countFormed n).record a) n = none := h
  have hparams : (s.countFormed n).params n = s.params n := by simp [State.countFormed]
  simp only [State.formCover, hb, hparams, hd]

end Sys2Proof.Machine
end

section
/-! Certificates: the dispatch and the cover generator. -/

namespace Sys2Proof.Machine

/-- Settles O51. -/
theorem dispatchTakesCellsAndAKey : Obligations.DispatchTakesCellsAndAKey := by
  refine ⟨?_, ?_⟩
  · rintro len q m x tag p htag hp
    obtain rfl : tag = tagBytes x := htag
    refine ⟨?_, fun whole hq hdvd hroom hleast => ?_⟩
    · rintro rfl
      rw [envelopeOf_zero, envValues_eq, hp]
    · rw [envelopeOf_quantum hp hq hdvd hroom hleast, envValues_eq, envValues_eq]
      refine if_congr Iff.rfl rfl ?_
      split
      next hfit =>
        have hct : p + 2 + (m - 44 - tagBytes x - p) = m - 42 - tagBytes x := by omega
        have henv : m - 42 - tagBytes x + 42 + tagBytes x = m := by omega
        rw [hct, henv]
      next => rfl
  · rintro s n a kind len own x code data env
    refine ⟨fun h => State.dispatch_of_none h, fun v reduced h s1 s2 total htotal hs1 hs2 => ?_⟩
    obtain rfl : s1 = s.countReduced n reduced := hs1
    obtain rfl : total = cellsFor v.envLen := htotal
    refine ⟨fun hfew => ?_, fun hroom t why huse => ?_⟩
    · exact State.dispatch_of_few h hfew
    · have huse' : ((s.countReduced n reduced).takeCells .egress n (cellsFor v.envLen - own)).keyUse n a
          (newEntry kind a v (max own (cellsFor v.envLen)) code data) = (t, why) := hs2 ▸ huse
      rw [State.dispatch_of_room h hroom huse']
      rcases why with _ | why <;> rfl

/-- Settles O52. -/
theorem coverTimerMakesCoverEntries : Obligations.CoverTimerMakesCoverEntries := by
  rintro s n
  refine ⟨fun h => congrArg Host.Outcome.next (by simp only [State.coverExpiry, h]), ?_⟩
  rintro due s0 s1 g hdue hg hs0 hs1
  have hlink : s0.link n = { s.link n with cover := g } := by rw [hs0]; exact State.link_setLink_same _ _ _
  have hcover : (s0.link n).cover = g := by rw [hlink]
  have hpath : s0.path .egress n = s.path .egress n := by rw [State.path, hlink]; rfl
  have hparams : s0.params n = s.params n := by rw [State.params, hlink]; rfl
  have hrecord : ∀ a, s0.record a = s.record a := fun a => by rw [hs0]; rfl
  have hexec : exec (.coverTimerExpiry n) s = .next ((s0.tryCover n).finish .egress n) := by
    refine congrArg Host.Outcome.next ?_
    simp only [State.coverExpiry, hdue]
    rw [hs0, hg]
    rfl
  obtain rfl : s1 = s0.countFormed n := by rw [hs1, State.countFormed, hpath]
  have hroom : ∀ {k : Nat}, (s.path .egress n).queue.length < k → k = 128 → s0.queueFull .egress n = false := by
    rintro k h rfl
    rw [State.queueFull, hpath]
    exact decide_eq_false (Nat.not_le.2 h)
  rw [hexec]
  refine ⟨fun hfull => ?_, fun hfit hnone => ?_, fun hfit a ha => ⟨fun why hbind => ?_, fun hbind t why hd => ?_⟩, fun t =>
    ⟨rfl, rfl, fun why cause h => State.coverOutcome_of_cause h⟩⟩
  · have hq : s0.queueFull .egress n = true := by
      rw [State.queueFull, hpath]
      exact decide_eq_true hfull
    rw [State.tryCover, if_pos hq, hcover]
    rfl
  · rw [State.tryCover, if_neg (by simp [hroom hfit rfl]), hparams, hnone]
    rw [State.stall, hcover, hparams, hnone]
    rfl
  · rw [State.tryCover, if_neg (by simp [hroom hfit rfl]), hparams, ha]
    exact congrArg (fun u => Host.Outcome.next (State.finish u .egress n)) (State.formCover_of_unbound (s := s0) ((hrecord a).symm ▸ hbind))
  · rw [State.tryCover, if_neg (by simp [hroom hfit rfl]), hparams, ha]
    exact congrArg (fun u => Host.Outcome.next (State.finish u .egress n))
      (State.formCover_of_bound (s := s0) ((hrecord a).symm ▸ hbind) (hparams.symm ▸ hd))

end Sys2Proof.Machine
end

section
/-! SUPPORT. The classifier: the first rule that matches, the flow entry that decides, and the handling of verdicts (R88 to R93, R98). -/

namespace Sys2Proof.Machine

/-! ### Range rules (R93) -/

theorem RangeRule.applies_iff (r : RangeRule) (d : Dir) (n : LinkId) : r.applies d n = true
    ↔ r.enabled = true ∧ r.links.getLsbD n.val = true ∧ r.dirs.getLsbD (dirBit d) = true := by
  rw [RangeRule.applies, Bool.and_eq_true, Bool.and_eq_true, and_assoc]

theorem RangeRule.matches_iff_inside {r : RangeRule} (f : Bytes) (h : r.sense = .inside) :
    r.matches f = true ↔ r.low ≤ r.field.value f ∧ r.field.value f ≤ r.high := by
  simp [RangeRule.matches, h]

theorem RangeRule.matches_iff_outside {r : RangeRule} (f : Bytes) (h : r.sense = .outside) :
    r.matches f = true ↔ r.field.value f < r.low ∨ r.high < r.field.value f := by
  simp only [RangeRule.matches, h, Bool.not_eq_true', Bool.and_eq_false_iff, decide_eq_false_iff_not, Nat.not_le]

theorem isTagged_iff (f : Bytes) : isTagged f = true ↔ numAt f 12 2 = 0x8100 := beq_iff_eq

theorem vidCode_eq (f : Bytes) : vidCode f = if numAt f 12 2 = 0x8100 then numAt f 14 2 % 4096 else 4096 := by
  simp only [vidCode, isTagged_iff]

theorem etherType_eq (f : Bytes) : etherType f = if numAt f 12 2 = 0x8100 then numAt f 16 2 else numAt f 12 2 := by
  simp only [etherType, typeOffset, isTagged_iff]
  split <;> rfl

/-- R89 step 2: the lowest-indexed rule that applies and matches decides. -/
theorem State.ruleVerdict_of_first {s : State} {d : Dir} {n : LinkId} {f : Bytes} (i : Fin 32) (ha : s.rules[i].applies d n = true)
    (hm : s.rules[i].matches f = true) (hbefore : ∀ j : Fin 32, j < i → s.rules[j].applies d n = false ∨ s.rules[j].matches f = false) :
    s.ruleVerdict d n f = some s.rules[i].verdict := by
  have hfind : s.rules.toList.find? (fun r => r.applies d n && r.matches f) = some s.rules[i] := by
    rw [List.find?_eq_some_iff_getElem]
    refine ⟨by rw [ha, hm]; rfl, i.val, by simp, by simp, fun j hj => ?_⟩
    have hj' : j < 32 := hj.trans i.isLt
    simp only [Vector.getElem_toList, Bool.not_eq_true', Bool.and_eq_false_iff]
    exact hbefore ⟨j, hj'⟩ hj
  rw [State.ruleVerdict, hfind]
  rfl

theorem State.ruleVerdict_of_none {s : State} {d : Dir} {n : LinkId} {f : Bytes}
    (h : ∀ i : Fin 32, s.rules[i].applies d n = false ∨ s.rules[i].matches f = false) : s.ruleVerdict d n f = none := by
  have hfind : s.rules.toList.find? (fun r => r.applies d n && r.matches f) = none := by
    rw [List.find?_eq_none]
    intro r hr
    obtain ⟨i, hi, rfl⟩ := List.getElem_of_mem hr
    have hi' : i < 32 := by simpa using hi
    simp only [Vector.getElem_toList, Bool.not_eq_true, Bool.and_eq_false_iff]
    exact h ⟨i, hi'⟩
  rw [State.ruleVerdict, hfind]
  rfl

/-! ### The flow entry (R89 steps 3 to 5, R98) -/

theorem State.egressFlow_of_exact {s : State} {n : LinkId} {f : Bytes} {k : FlowKey} {e : FlowEntry}
    (hk : k = { link := n, vid := vidCode f, addr := some (f.take 6) }) (he : s.flow.find k = some e) :
    s.egressFlow n f = (s.withFlow (s.flow.hit k)).egressVerdict n f e.verdict e.assoc := by
  subst hk
  have hkey : s.flowKeyFor n f = some { link := n, vid := vidCode f, addr := some (f.take 6) } :=
    if_pos (Option.isSome_iff_exists.2 ⟨e, he⟩)
  simp only [State.egressFlow, hkey, he]

theorem State.egressFlow_of_any {s : State} {n : LinkId} {f : Bytes} {exact any : FlowKey} {e : FlowEntry}
    (hexact : exact = { link := n, vid := vidCode f, addr := some (f.take 6) })
    (hany : any = { link := n, vid := vidCode f, addr := none }) (hnone : s.flow.find exact = none) (he : s.flow.find any = some e) :
    s.egressFlow n f = (s.withFlow (s.flow.hit any)).egressVerdict n f e.verdict e.assoc := by
  subst hexact hany
  have hkey : s.flowKeyFor n f = some { link := n, vid := vidCode f, addr := none } :=
    (if_neg fun h => by obtain ⟨x, hx⟩ := Option.isSome_iff_exists.1 h; cases hnone.symm.trans hx).trans
      (if_pos (Option.isSome_iff_exists.2 ⟨e, he⟩))
  simp only [State.egressFlow, hkey, he]

theorem State.egressFlow_of_default {s : State} {n : LinkId} {f : Bytes} {exact any : FlowKey}
    (hexact : exact = { link := n, vid := vidCode f, addr := some (f.take 6) })
    (hany : any = { link := n, vid := vidCode f, addr := none }) (hnone : s.flow.find exact = none) (hnone' : s.flow.find any = none) :
    s.egressFlow n f = s.egressVerdict n f (s.params n).defVerdict (s.params n).defAssoc := by
  subst hexact hany
  have hkey : s.flowKeyFor n f = none :=
    (if_neg fun h => by obtain ⟨x, hx⟩ := Option.isSome_iff_exists.1 h; cases hnone.symm.trans hx).trans
      (if_neg fun h => by obtain ⟨x, hx⟩ := Option.isSome_iff_exists.1 h; cases hnone'.symm.trans hx)
  simp only [State.egressFlow, hkey]

/-! ### The modes (R88, R89) -/

theorem State.classifyEgress_of_stored {s : State} {n : LinkId} {f : Bytes} {rest : List Bytes} (h : (s.path .egress n).stored = f :: rest) :
    s.classifyEgress n = ((s.setPath .egress n { s.path .egress n with stored := rest }).egressFrame n f).finish .egress n := by
  simp only [State.classifyEgress, h]

theorem State.egressFrame_of_halt {s : State} {n : LinkId} (f : Bytes) (h : (s.link n).mode = .halt) :
    s.egressFrame n f = s.dropFrame .egress n .halted (cellsFor f.length) := by simp only [State.egressFrame, h]

theorem State.egressFrame_of_cover {s : State} {n : LinkId} (f : Bytes) (h : (s.link n).mode = .cover) :
    s.egressFrame n f = s.dropFrame .egress n .coverMode (cellsFor f.length) := by simp only [State.egressFrame, h]

theorem State.egressFrame_of_discardRule {s : State} {n : LinkId} {f : Bytes} (h : (s.link n).mode = .protect ∨ (s.link n).mode = .selective)
    (hv : s.ruleVerdict .egress n f = some .discard) :
    s.egressFrame n f = s.dropFrame .egress n .ruleDiscard (cellsFor f.length) := by
  obtain h | h := h
  all_goals simp only [State.egressFrame, h, hv]

theorem State.egressFrame_of_bypassRule {s : State} {n : LinkId} {f : Bytes} (h : (s.link n).mode = .protect ∨ (s.link n).mode = .selective)
    (hv : s.ruleVerdict .egress n f = some .bypass) : s.egressFrame n f = s.egressBypass n f := by
  obtain h | h := h
  all_goals simp only [State.egressFrame, h, hv]

theorem State.egressFrame_of_noRule {s : State} {n : LinkId} {f : Bytes} (h : (s.link n).mode = .protect ∨ (s.link n).mode = .selective)
    (hv : s.ruleVerdict .egress n f = none) : s.egressFrame n f = s.egressFlow n f := by
  obtain h | h := h
  all_goals simp only [State.egressFrame, h, hv]

theorem State.egressBypass_eq (s : State) (n : LinkId) (f : Bytes) : s.egressBypass n f
    = if (s.link n).mode ≠ .selective then s.dropFrame .egress n .bypassBarred (cellsFor f.length) else s.enterBypass .egress n f := by
  unfold State.egressBypass
  split
  next h => rw [if_neg (not_not.2 h)]
  next h => rw [if_pos h]

/-! ### ENCRYPT (R92) -/

theorem bindEgress_of_other {r : Record} {n : LinkId} (h : r.dir = .ingress ∨ r.link ≠ n) : bindEgress r n = some .noKey :=
  if_pos (h.imp_left fun hd => by rw [hd]; decide)

/-- R92: the binding check of a record of the link. -/
theorem bindEgress_of_own {r : Record} {n : LinkId} (h : ¬ (r.dir = .ingress ∨ r.link ≠ n)) :
    (r.state = .draining → bindEgress r n = some .retired) ∧ (r.state = .purging → bindEgress r n = some .purged)
      ∧ (r.state = .empty ∨ r.state = .opened ∨ r.state = .barred → bindEgress r n = some .noKey)
      ∧ (r.state = .live ∨ r.state = .exhausted → bindEgress r n = none) := by
  have hown : ¬ (r.dir ≠ .egress ∨ r.link ≠ n) := fun hx => h (hx.imp_left fun hd => by
    rcases hdir : r.dir
    · exact absurd hdir hd
    · rfl)
  rw [bindEgress, if_neg hown]
  refine ⟨fun hs => by rw [hs], fun hs => by rw [hs], ?_, ?_⟩
  · rintro (hs | hs | hs)
    all_goals rw [hs]
  · rintro (hs | hs)
    all_goals rw [hs]

theorem State.egressEncrypt_of_unbound {s : State} {n : LinkId} {a : AssocId} (f : Bytes) {why : Reason}
    (h : bindEgress (s.record a) n = some why) : s.egressEncrypt n a f = s.dropFrame .egress n why (cellsFor f.length) := by
  simp only [State.egressEncrypt, h]

theorem State.egressEncrypt_of_bound {s : State} {n : LinkId} {a : AssocId} (f : Bytes) (h : bindEgress (s.record a) n = none) :
    s.egressEncrypt n a f = if s.queueFull .egress n then s.dropFrame .egress n .orderFull (cellsFor f.length)
      else (s.dispatch n a .frame f.length (cellsFor f.length) ((s.record a).params.expose && isTagged f) 0 f).1 := by
  simp only [State.egressEncrypt, h]

end Sys2Proof.Machine
end

section
/-! Certificates: egress classification. -/

namespace Sys2Proof.Machine

/-- Settles O49. -/
theorem egressClassificationDecides : Obligations.EgressClassificationDecides := by
  refine ⟨fun r d n f v hv => ⟨?_, ?_⟩, fun t k => ⟨rfl, fun b hb => ?_, ?_⟩, fun s n => ⟨fun h => congrArg Host.Outcome.next ?_, ?_⟩⟩
  · rw [r.applies_iff]
    cases d <;> rfl
  · have hvalue : r.field.value f = v := by
      rw [hv]
      cases hf : r.field with
      | vidCode => exact vidCode_eq f
      | etherType => exact etherType_eq f
      | daByte => rfl
    rw [← hvalue]
    cases hs : r.sense with
    | inside => exact r.matches_iff_inside f hs
    | outside => exact r.matches_iff_outside f hs
  · exact (t.chain_setChain _ _ _).trans (if_neg hb)
  · exact (t.chain_setChain _ _ _).trans (if_pos rfl)
  · simp only [State.classifyEgress, h]
  · rintro f rest s0 cells hstored hs0 hcells
    obtain rfl : cells = cellsFor f.length := hcells
    have hmode : (s0.link n).mode = (s.link n).mode := by rw [hs0, State.mode_setPath]
    have hexec : exec (.egressClassification n) s = .next ((s0.egressFrame n f).finish .egress n) := by
      rw [hs0]
      exact congrArg Host.Outcome.next (State.classifyEgress_of_stored hstored)
    have hrules : ∀ d m g, s0.ruleVerdict d m g = s.ruleVerdict d m g := fun d m g => by rw [hs0]; rfl
    have hfull : ∀ u : State, u.path .egress n = s0.path .egress n →
        (u.queueFull .egress n = true ↔ 128 ≤ (s.path .egress n).queue.length) := fun u hu => by
      rw [State.queueFull, hu, hs0, State.path_setPath_same]
      exact decide_eq_true_iff
    rw [hexec]
    refine ⟨fun h => ?_, fun h => ?_, fun h => ⟨fun i ha hm hbefore => ?_, fun hno => ?_⟩, ?_⟩
    · rw [State.egressFrame_of_halt f (hmode.trans h)]
    · rw [State.egressFrame_of_cover f (hmode.trans h)]
    · have hfirst := (hrules .egress n f).trans (State.ruleVerdict_of_first i ha hm hbefore)
      cases hv : s.rules[i].verdict with
      | discard => rw [State.egressFrame_of_discardRule (hmode.symm ▸ h) (hfirst.trans (congrArg some hv))]
      | bypass => rw [State.egressFrame_of_bypassRule (hmode.symm ▸ h) (hfirst.trans (congrArg some hv))]
    · rintro s1 v assoc exact any hexact hany hcases
      rw [State.egressFrame_of_noRule (hmode.symm ▸ h) ((hrules _ _ _).trans (State.ruleVerdict_of_none hno))]
      have hflow : s0.flow = s.flow := by rw [hs0]; rfl
      have hparams : s0.params n = s.params n := by rw [hs0, State.params_setPath]
      have hverdict : s0.egressFlow n f = s1.egressVerdict n f v assoc := by
        rw [← hflow, ← hparams] at hcases
        obtain ⟨e, he, rfl, rfl, rfl⟩ | ⟨hnone, e, he, rfl, rfl, rfl⟩ | ⟨hnone, hnone', rfl, rfl, rfl⟩ := hcases
        · exact State.egressFlow_of_exact hexact he
        · exact State.egressFlow_of_any hexact hany hnone he
        · exact State.egressFlow_of_default hexact hany hnone hnone'
      have hkept : (∀ a, s1.record a = s.record a) ∧ s1.path .egress n = s0.path .egress n := by
        obtain ⟨e, -, rfl, -⟩ | ⟨-, e, -, rfl, -⟩ | ⟨-, -, rfl, -⟩ := hcases
        all_goals
          rw [hs0]
          exact ⟨fun _ => rfl, rfl⟩
      obtain ⟨hrecord, hpath⟩ := hkept
      rw [hverdict]
      refine congrArg (fun u => Host.Outcome.next (State.finish u .egress n)) ?_
      rcases v with _ | _ | _
      · rcases assoc with _ | a
        · rfl
        · change s1.egressEncrypt n a f = _
          by_cases hb : (s.record a).dir = .ingress ∨ (s.record a).link ≠ n
          · exact (State.egressEncrypt_of_unbound f (hrecord a ▸ bindEgress_of_other hb)).trans (if_pos hb).symm
          · refine Eq.trans ?_ (if_neg hb).symm
            obtain ⟨hdraining, hpurging, hunused, hlive⟩ := bindEgress_of_own hb
            rcases hs : (s.record a).state
            case live | exhausted =>
              rw [State.egressEncrypt_of_bound f (hrecord a ▸ hlive (by simp [hs])), hrecord]
              exact if_congr (hfull s1 hpath) rfl rfl
            case draining => exact State.egressEncrypt_of_unbound f (hrecord a ▸ hdraining hs)
            case purging => exact State.egressEncrypt_of_unbound f (hrecord a ▸ hpurging hs)
            case empty | opened | barred => exact State.egressEncrypt_of_unbound f (hrecord a ▸ hunused (by simp [hs]))
      · rfl
      · rfl
    · rw [State.egressBypass_eq, hmode]
      refine if_congr Iff.rfl rfl ?_
      exact if_congr (hfull s0 rfl) rfl rfl

end Sys2Proof.Machine
end

section
/-! SUPPORT. Ingress classification: the header, the binding, the phase, and the clear-frame rules (R102 to R105, R124 to R129). -/

namespace Sys2Proof.Machine

/-! ### The kinds of frames (R88, R102) -/

theorem State.classifyIngress_of_stored {s : State} {n : LinkId} {f : Bytes} {rest : List Bytes}
    (h : (s.path .ingress n).stored = f :: rest) : s.classifyIngress n
      = ((s.setPath .ingress n { s.path .ingress n with stored := rest }).ingressFrame n f).finish .ingress n := by
  simp only [State.classifyIngress, h]

theorem State.ingressFrame_of_halt {s : State} {n : LinkId} (f : Bytes) (h : (s.link n).mode = .halt) :
    s.ingressFrame n f = s.dropFrame .ingress n .halted (cellsFor f.length) := by simp only [State.ingressFrame, h]

theorem State.ingressFrame_of_running {s : State} {n : LinkId} (f : Bytes) (h : (s.link n).mode ≠ .halt) :
    s.ingressFrame n f = if etherType f = (s.params n).envType then s.ingressEnvelope n (isTagged f) f else s.ingressClear n f := by
  unfold State.ingressFrame
  split
  next hm => exact absurd hm h
  next => rfl

/-! ### The header (R103) -/

theorem badHeader_eq_false_iff (x : Bool) (f : Bytes) : badHeader x f = false ↔ 60 + tagBytes x ≤ f.length
    ∧ (byteAt f (14 + tagBytes x)).toNat / 16 = 1 ∧ numAt f (16 + tagBytes x) 2 ≤ 2047 := by
  simp only [badHeader, headerOf, Bool.or_eq_false_iff, decide_eq_false_iff_not, Nat.not_lt, bne_eq_false_iff_eq, and_assoc]
  exact and_congr_right fun _ => and_congr_right fun _ => decide_eq_false_iff_not.trans Nat.not_lt

theorem getLsbD_one (b : Byte) : b.getLsbD 1 = (b.toNat / 2 % 2 == 1) := by
  revert b
  decide

theorem headerOf_eq {x : Bool} {f : Bytes} {p : Phase} {a : AssocId} (hp : p.val = (byteAt f (14 + tagBytes x)).toNat / 4 % 4)
    (ha : a.val = numAt f (16 + tagBytes x) 2) : headerOf x f
      = { phase := p, padded := (byteAt f (14 + tagBytes x)).getLsbD 1, channel := a.val, pn := numAt f (18 + tagBytes x) 4 } := by
  have hphase : (⟨(byteAt f (14 + tagBytes x)).toNat / 4 % 4, Nat.mod_lt _ (by decide)⟩ : Phase) = p := Fin.ext hp.symm
  rw [headerOf, getLsbD_one, ha]
  exact congrArg (fun p => Header.mk p _ _ _) hphase

/-! ### Envelopes (R104, R109) -/

theorem State.ingressEnvelope_of_bad {s : State} {n : LinkId} {x : Bool} {f : Bytes} (h : badHeader x f = true) :
    s.ingressEnvelope n x f = s.dropFrame .ingress n .badHeader (cellsFor f.length) := by
  rw [State.ingressEnvelope]
  exact if_pos h

/-- R103, R104: an envelope with a good header, up to its record. -/
theorem State.ingressEnvelope_of_unbound {s : State} {n : LinkId} {x : Bool} {f : Bytes} {a : AssocId} {why : Reason}
    (h : badHeader x f = false) (ha : a.val = (headerOf x f).channel) (hb : bindIngress (s.record a) n = some why) :
    s.ingressEnvelope n x f = s.dropFrame .ingress n why (cellsFor f.length) := by
  simp only [State.ingressEnvelope, h, Bool.false_eq_true, if_false, toAssoc?_of_eq ha, hb]

theorem State.ingressEnvelope_of_full {s : State} {n : LinkId} {x : Bool} {f : Bytes} {a : AssocId} (h : badHeader x f = false)
    (ha : a.val = (headerOf x f).channel) (hb : bindIngress (s.record a) n = none) (hq : s.queueFull .ingress n = true) :
    s.ingressEnvelope n x f = s.dropFrame .ingress n .orderFull (cellsFor f.length) := by
  simp only [State.ingressEnvelope, h, Bool.false_eq_true, if_false, toAssoc?_of_eq ha, hb, hq, if_true]

theorem State.ingressEnvelope_of_refused {s : State} {n : LinkId} {x : Bool} {f : Bytes} {a : AssocId} {why : Reason}
    (h : badHeader x f = false) (ha : a.val = (headerOf x f).channel) (hb : bindIngress (s.record a) n = none)
    (hq : s.queueFull .ingress n = false) (he : s.enterEnvelope n a (openEntry a x (headerOf x f) f) = (s, some why)) :
    s.ingressEnvelope n x f = s.dropFrame .ingress n why (cellsFor f.length) := by
  simp only [State.ingressEnvelope, h, Bool.false_eq_true, if_false, toAssoc?_of_eq ha, hb, hq, he]

theorem State.ingressEnvelope_of_entered {s t : State} {n : LinkId} {x : Bool} {f : Bytes} {a : AssocId} (h : badHeader x f = false)
    (ha : a.val = (headerOf x f).channel) (hb : bindIngress (s.record a) n = none) (hq : s.queueFull .ingress n = false)
    (he : s.enterEnvelope n a (openEntry a x (headerOf x f) f) = (t, none)) : s.ingressEnvelope n x f = t := by
  simp only [State.ingressEnvelope, h, Bool.false_eq_true, if_false, toAssoc?_of_eq ha, hb, hq, he]

theorem bindIngress_of_other {r : Record} {n : LinkId} (h : r.dir = .egress ∨ r.link ≠ n) : bindIngress r n = some .noKey :=
  if_pos (h.imp_left fun hd => by rw [hd]; decide)

/-- R104: the binding check of a record of the link. -/
theorem bindIngress_of_own {r : Record} {n : LinkId} (hd : r.dir = .ingress) (hl : r.link = n) :
    (r.state = .draining → bindIngress r n = some .retired) ∧ (r.state = .purging → bindIngress r n = some .purged)
      ∧ (r.state = .empty ∨ r.state = .opened ∨ r.state = .barred ∨ r.state = .exhausted → bindIngress r n = some .noKey)
      ∧ (r.state = .live → bindIngress r n = none) := by
  have hown : ¬ (r.dir ≠ .ingress ∨ r.link ≠ n) := by
    rintro (h | h)
    · exact h hd
    · exact h hl
  rw [bindIngress, if_neg hown]
  refine ⟨fun hs => by rw [hs], fun hs => by rw [hs], ?_, fun hs => by rw [hs]⟩
  rintro (hs | hs | hs | hs)
  all_goals rw [hs]

/-! ### Phase selection and the entry (R124 to R129) -/

theorem Record.select_of_none {r : Record} {p : Phase} (h : r.keyOf p = none) : r.select p = .nothing := by
  simp only [Record.select, h]

theorem Record.select_of_ended {r : Record} {p : Phase} {k : Key} (h : r.keyOf p = some k) (hs : k.state = .spent ∨ k.state = .retiring) :
    r.select p = .nothing := by
  obtain hs | hs := hs
  all_goals simp only [Record.select, h, hs]

theorem Record.select_of_service {r : Record} {p : Phase} {k : Key} (h : r.keyOf p = some k)
    (hs : k.state = .inUse ∨ k.state = .ready ∨ k.state = .grace) : r.select p = .key k := by
  obtain hs | hs | hs := hs
  all_goals simp only [Record.select, h, hs]

theorem Record.select_of_loading {r : Record} {p : Phase} {k : Key} (h : r.keyOf p = some k) (hs : k.state = .loading)
    (hn : r.nxt = some k) : r.select p = .loading := by
  have hphase : k.phase = p := beq_iff_eq.1 (List.find?_some (p := fun k : Key => k.phase == p) h)
  simp only [Record.select, h, hs, hn]
  exact if_pos (congrArg some hphase)

theorem State.enterEnvelope_of_nothing {s : State} {n : LinkId} {a : AssocId} {e : Entry} (h : (s.record a).select e.phase = .nothing) :
    s.enterEnvelope n a e = (s, some .unknownPhase) := by simp only [State.enterEnvelope, h]

theorem State.enterEnvelope_of_loading {s : State} {n : LinkId} {a : AssocId} {e : Entry} (h : (s.record a).select e.phase = .loading) :
    s.enterEnvelope n a e = s.holdIngress n a e := by simp only [State.enterEnvelope, h]

theorem State.enterEnvelope_of_refused {s : State} {n : LinkId} {a : AssocId} {e : Entry} {k : Key} {why : Reason}
    (h : (s.record a).select e.phase = .key k) (ht : k.window.test (e.pn.getD 0) = some why) :
    s.enterEnvelope n a e = (s, some why) := by simp only [State.enterEnvelope, h, ht]

theorem State.enterEnvelope_of_key {s : State} {n : LinkId} {a : AssocId} {e : Entry} {k : Key}
    (h : (s.record a).select e.phase = .key k) (ht : k.window.test (e.pn.getD 0) = none) : s.enterEnvelope n a e
      = ((s.setRecord a ((s.record a).mapKey e.phase Key.hold)).append .ingress n { e with state := .waiting, key := some e.phase }, none) := by
  simp only [State.enterEnvelope, h, ht]

theorem State.holdIngress_of_zero {s : State} {n : LinkId} {a : AssocId} {e : Entry} (h : e.pn = some 0) :
    s.holdIngress n a e = (s, some .badPn) := if_pos h

theorem State.holdIngress_of_discard {s : State} {n : LinkId} {a : AssocId} {e : Entry} (h : e.pn ≠ some 0)
    (hp : (s.record a).params.holdPolicy = .discard) : s.holdIngress n a e = (s, some .unknownPhase) :=
  (if_neg h).trans (if_pos hp)

theorem State.holdIngress_of_full {s : State} {n : LinkId} {a : AssocId} {e : Entry} (h : e.pn ≠ some 0)
    (hp : (s.record a).params.holdPolicy ≠ .discard) (hq : 32 ≤ heldCount (s.path .ingress n).queue) :
    s.holdIngress n a e = (s, some .holdFull) := (if_neg h).trans ((if_neg hp).trans (if_pos hq))

theorem State.holdIngress_of_hold {s : State} {n : LinkId} {a : AssocId} {e : Entry} (h : e.pn ≠ some 0)
    (hp : (s.record a).params.holdPolicy ≠ .discard) (hq : heldCount (s.path .ingress n).queue < 32) : s.holdIngress n a e
      = (s.append .ingress n
          { e with
            state := .held ((holdTimesOf (s.path .ingress n).queue a).getD (s.now, s.now + (s.params n).holdTimeout * 100000)).1
              ((holdTimesOf (s.path .ingress n).queue a).getD (s.now, s.now + (s.params n).holdTimeout * 100000)).2 }, none) :=
  (if_neg h).trans ((if_neg hp).trans (if_neg (Nat.not_le.2 hq)))

/-! ### Clear frames (R105) -/

theorem State.ingressClear_of_barred {s : State} {n : LinkId} (f : Bytes)
    (h : (s.link n).mode ≠ .selective ∨ s.ruleVerdict .ingress n f = none) :
    s.ingressClear n f = s.dropFrame .ingress n .clearBarred (cellsFor f.length) := by
  unfold State.ingressClear
  dsimp only
  split
  next hm => simp only [h.resolve_left (not_not.2 hm)]
  next => rfl

theorem State.ingressClear_of_discard {s : State} {n : LinkId} {f : Bytes} (hm : (s.link n).mode = .selective)
    (hv : s.ruleVerdict .ingress n f = some .discard) :
    s.ingressClear n f = s.dropFrame .ingress n .ruleDiscard (cellsFor f.length) := by simp only [State.ingressClear, hm, hv]

theorem State.ingressClear_of_bypass {s : State} {n : LinkId} {f : Bytes} (hm : (s.link n).mode = .selective)
    (hv : s.ruleVerdict .ingress n f = some .bypass) : s.ingressClear n f = s.enterBypass .ingress n f := by
  simp only [State.ingressClear, hm, hv]

end Sys2Proof.Machine
end

section
/-! Certificates: ingress classification. -/

namespace Sys2Proof.Machine

/-- Settles O53. -/
theorem ingressClassificationDecides : Obligations.IngressClassificationDecides := by
  refine fun s n => ⟨fun h => congrArg Host.Outcome.next (by simp only [State.classifyIngress, h]), ?_⟩
  rintro f rest s0 cells x at4 hstored hs0 hcells hx hat4 drop envelope goodHeader
  obtain rfl : cells = cellsFor f.length := hcells
  obtain rfl : x = isTagged f := hx
  obtain rfl : at4 = tagBytes (isTagged f) := hat4
  have hmode : (s0.link n).mode = (s.link n).mode := by rw [hs0, State.mode_setPath]
  have hparams : s0.params n = s.params n := by rw [hs0, State.params_setPath]
  have hrecord : ∀ a, s0.record a = s.record a := fun a => by rw [hs0]; rfl
  have hqueue : (s0.path .ingress n).queue = (s.path .ingress n).queue := by rw [hs0, State.path_setPath_same]
  have hnow : s0.now = s.now := by rw [hs0]; rfl
  have hrules : s0.ruleVerdict .ingress n f = s.ruleVerdict .ingress n f := by rw [hs0]; rfl
  have htype : etherType f = numAt f (12 + tagBytes (isTagged f)) 2 := by
    rw [etherType, typeOffset]
    cases isTagged f <;> rfl
  have hexec : ∀ {u : State}, s0.ingressFrame n f = u → exec (.ingressClassification n) s = .next (u.finish .ingress n) := by
    rintro u rfl
    rw [hs0]
    exact congrArg Host.Outcome.next (State.classifyIngress_of_stored hstored)
  have henvelope : envelope → ∀ {u : State}, s0.ingressEnvelope n (isTagged f) f = u →
      exec (.ingressClassification n) s = .next (u.finish .ingress n) := fun ⟨hm, he⟩ u hu =>
    hexec ((State.ingressFrame_of_running f (hmode.symm ▸ hm)).trans ((if_pos (htype.trans (he.trans (congrArg _ hparams.symm)))).trans hu))
  have hfull : s0.queueFull .ingress n = true ↔ 128 ≤ (s.path .ingress n).queue.length := by
    rw [State.queueFull, hqueue]
    exact decide_eq_true_iff
  refine ⟨fun h => hexec (State.ingressFrame_of_halt f (hmode.trans h)), fun he hbad => henvelope he (State.ingressEnvelope_of_bad ?_), ?_, ?_⟩
  · rw [← Bool.not_eq_false, badHeader_eq_false_iff]
    exact hbad
  · rintro he hgood a p pn r e ha hp rfl rfl rfl
    have hheader := headerOf_eq (f := f) hp ha
    have hok := (badHeader_eq_false_iff _ f).2 hgood
    have hchannel : a.val = (headerOf (isTagged f) f).channel := ha
    have hother : (s.record a).dir = .egress ∨ (s.record a).link ≠ n → exec (.ingressClassification n) s = drop .noKey := fun h =>
      henvelope he (State.ingressEnvelope_of_unbound hok hchannel (bindIngress_of_other (hrecord a ▸ h)))
    have hown : (s.record a).dir = .ingress → (s.record a).link = n → _ := fun hd hl => bindIngress_of_own (hrecord a ▸ hd) (hrecord a ▸ hl)
    have hunused : (s.record a).state = .empty ∨ (s.record a).state = .opened ∨ (s.record a).state = .barred ∨ (s.record a).state = .exhausted →
        exec (.ingressClassification n) s = drop .noKey := fun h => by
      by_cases ho : (s.record a).dir = .egress ∨ (s.record a).link ≠ n
      · exact hother ho
      · obtain ⟨hd, hl⟩ := not_or.1 ho
        have hd' : (s.record a).dir = .ingress := by
          rcases hx : (s.record a).dir
          · exact absurd hx hd
          · rfl
        obtain ⟨-, -, hno, -⟩ := hown hd' (not_not.1 hl)
        exact henvelope he (State.ingressEnvelope_of_unbound hok hchannel (hno (hrecord a ▸ h)))
    refine ⟨fun h => ?_, fun hd hl => ?_⟩
    · obtain h | h | h := h
      · exact hother (.inl h)
      · exact hother (.inr h)
      · exact hunused h
    obtain ⟨hdraining, hpurging, -, hlive⟩ := hown hd hl
    refine ⟨fun h => ?_, fun h => ?_, fun h hq => ?_, fun h hq => ?_⟩
    · exact henvelope he (State.ingressEnvelope_of_unbound hok hchannel (hdraining (hrecord a ▸ h)))
    · exact henvelope he (State.ingressEnvelope_of_unbound hok hchannel (hpurging (hrecord a ▸ h)))
    · exact henvelope he (State.ingressEnvelope_of_full hok hchannel (hlive (hrecord a ▸ h)) (hfull.2 hq))
    have hroom : s0.queueFull .ingress n = false := Bool.eq_false_iff.2 fun hx => absurd (hfull.1 hx) (Nat.not_le.2 hq)
    have hrefused : ∀ {why : Reason}, s0.enterEnvelope n a (openEntry a (isTagged f) (headerOf (isTagged f) f) f) = (s0, some why) →
        exec (.ingressClassification n) s = drop why := fun hx =>
      henvelope he (State.ingressEnvelope_of_refused hok hchannel (hlive (hrecord a ▸ h)) hroom hx)
    have hentered : ∀ {t : State}, s0.enterEnvelope n a (openEntry a (isTagged f) (headerOf (isTagged f) f) f) = (t, none) →
        exec (.ingressClassification n) s = .next (t.finish .ingress n) := fun hx =>
      henvelope he (State.ingressEnvelope_of_entered hok hchannel (hlive (hrecord a ▸ h)) hroom hx)
    rw [hheader] at hrefused hentered
    refine ⟨fun hk => ?_, fun k hk => ⟨fun hs => ?_, fun hs => ⟨fun why ht => ?_, fun ht => ?_⟩, fun hs hn => ?_⟩⟩
    · exact hrefused (State.enterEnvelope_of_nothing (Record.select_of_none (hrecord a ▸ hk)))
    · exact hrefused (State.enterEnvelope_of_nothing (Record.select_of_ended (hrecord a ▸ hk) hs))
    · exact hrefused (State.enterEnvelope_of_refused (Record.select_of_service (hrecord a ▸ hk) hs) ht)
    · rw [← hrecord a]
      exact hentered (State.enterEnvelope_of_key (Record.select_of_service (hrecord a ▸ hk) hs) ht)
    · have hloading : ∀ {padded : Bool} {pn : Nat} {t : State × Option Reason},
          s0.holdIngress n a (openEntry a (isTagged f) { phase := p, padded := padded, channel := a.val, pn := pn } f) = t →
          s0.enterEnvelope n a (openEntry a (isTagged f) { phase := p, padded := padded, channel := a.val, pn := pn } f) = t := fun hx =>
        (State.enterEnvelope_of_loading (Record.select_of_loading (hrecord a ▸ hk) hs (hrecord a ▸ hn))).trans hx
      refine ⟨fun h0 => hrefused (hloading (State.holdIngress_of_zero (congrArg some h0))),
        fun h0 hpolicy => hrefused (hloading (State.holdIngress_of_discard (mt Option.some.inj h0) (hrecord a ▸ hpolicy))),
        fun h0 hpolicy hheld => hrefused (hloading (State.holdIngress_of_full (mt Option.some.inj h0) (by rw [hrecord, hpolicy]; decide)
          (hqueue.symm ▸ hheld))), ?_⟩
      rintro h0 hpolicy hheld times rfl
      rw [← hparams, ← hqueue, ← hnow]
      exact hentered (hloading (State.holdIngress_of_hold (mt Option.some.inj h0) (by rw [hrecord, hpolicy]; decide)
        (hqueue.symm ▸ hheld)))
  · rintro hm hne
    have hclear : ∀ {u : State}, s0.ingressClear n f = u → exec (.ingressClassification n) s = .next (u.finish .ingress n) := fun hu =>
      hexec ((State.ingressFrame_of_running f (hmode.symm ▸ hm)).trans
        ((if_neg fun hx => hne (htype.symm.trans (hx.trans (congrArg _ hparams)))).trans hu))
    refine ⟨fun h => hclear (State.ingressClear_of_barred f (.inl (hmode.symm ▸ h))), fun h => ⟨fun hv => ?_, fun hv => ?_, fun hv hq => ?_,
      fun hv hq => ?_⟩⟩
    · exact hclear (State.ingressClear_of_barred f (.inr (hrules.trans hv)))
    · exact hclear (State.ingressClear_of_discard (hmode.trans h) (hrules.trans hv))
    · exact hclear ((State.ingressClear_of_bypass (hmode.trans h) (hrules.trans hv)).trans (if_pos (hfull.2 hq)))
    · exact hclear ((State.ingressClear_of_bypass (hmode.trans h) (hrules.trans hv)).trans
        (if_neg fun hx => absurd (hfull.1 hx) (Nat.not_le.2 hq)))

end Sys2Proof.Machine
end

section
/-! SUPPORT. The lengths that the cipher and the counter mode give, what counter mode undoes, and the envelope of a lane (R2, R5, R6). -/

namespace Sys2Proof.Machine

/-! ### Bytewise exclusive OR -/

theorem xorBytes_length (x y : Bytes) : (xorBytes x y).length = min x.length y.length := List.length_zipWith

theorem xorBytes_cancel {x y : Bytes} (h : x.length ≤ y.length) : xorBytes (xorBytes x y) y = x := by
  induction x generalizing y with
  | nil => rfl
  | cons a x ih =>
    rcases y with _ | ⟨b, y⟩
    · simp at h
    · change (a ^^^ b ^^^ b) :: xorBytes (xorBytes x y) y = _
      rw [ih (by simpa using h), BitVec.xor_assoc, BitVec.xor_self, BitVec.xor_zero]

/-! ### The cipher -/

theorem slice_length {bs : Bytes} {start len : Nat} (h : start + len ≤ bs.length) : (slice bs start len).length = len := by
  simp only [slice, List.length_take, List.length_drop]
  omega

theorem aesNextWords_length (i : Nat) {block : Bytes} (h : block.length = 32) : (aesNextWords i block).length = 32 := by
  have hw : ∀ j, j ≤ 7 → (slice block (4 * j) 4).length = 4 := fun j hj => slice_length (by omega)
  obtain ⟨a, b, c, d, hlast⟩ : ∃ a b c d, slice block (4 * 7) 4 = [a, b, c, d] := by
    have := hw 7 le_rfl
    generalize slice block (4 * 7) 4 = l at this
    match l, this with
    | [a, b, c, d], _ => exact ⟨a, b, c, d, rfl⟩
  simp only [aesNextWords, hlast, List.map_cons, List.map_nil, List.cons_append, List.nil_append, List.length_append, xorBytes_length,
    List.length_map, List.length_cons, List.length_nil, hw 0 (by omega), hw 1 (by omega), hw 2 (by omega), hw 3 (by omega),
    hw 4 (by omega), hw 5 (by omega), hw 6 (by omega)]
  rfl

theorem aesScheduleFrom_length (k i : Nat) {block : Bytes} (h : block.length = 32) : (aesScheduleFrom k i block).length = 32 * k := by
  induction k generalizing i block with
  | zero => rfl
  | succ k ih =>
    rw [aesScheduleFrom, List.length_append, aesNextWords_length i h, ih _ (aesNextWords_length i h)]
    omega

theorem aesShiftRows_length (s : Bytes) : (aesShiftRows s).length = 16 := by simp [aesShiftRows]

/-- The last round alone gives the block its length. -/
theorem aesRounds_length {schedule : Bytes} (k r : Nat) (s : Bytes) (h : 16 * (r + k) + 16 ≤ schedule.length) :
    (aesRounds schedule k r s).length = 16 := by
  induction k generalizing r s with
  | zero => rw [aesRounds, xorBytes_length, aesShiftRows_length, slice_length (by omega)]; rfl
  | succ k ih => exact ih (r + 1) _ (by omega)

theorem aesEncrypt_length {key : Bytes} (block : Bytes) (h : key.length = 32) : (aesEncrypt key block).length = 16 := by
  refine aesRounds_length 13 1 _ ?_
  rw [aesSchedule, List.length_append, h, aesScheduleFrom_length 7 1 h]
  decide

/-! ### Counter mode (R6) -/

theorem ctrBlocks_length {key : Bytes} (h : key.length = 32) (nonce : Bytes) (k c : Nat) {bs : Bytes} (hk : bs.length ≤ 16 * k) :
    (ctrBlocks key nonce k c bs).length = bs.length := by
  induction k generalizing c bs with
  | zero => rw [ctrBlocks, List.length_nil]; omega
  | succ k ih =>
    rw [ctrBlocks, List.length_append, xorBytes_length, aesEncrypt_length _ h, ih (c + 1) (by simp; omega), List.length_take,
      List.length_drop]
    omega

/-- R6 step 2: encryption and decryption alike. -/
theorem ctrBlocks_twice {key : Bytes} (h : key.length = 32) (nonce : Bytes) (k c : Nat) {bs : Bytes} (hk : bs.length ≤ 16 * k) :
    ctrBlocks key nonce k c (ctrBlocks key nonce k c bs) = bs := by
  induction k generalizing c bs with
  | zero => exact (List.length_eq_zero_iff.1 (by omega)).symm
  | succ k ih =>
    have hrest : (bs.drop 16).length ≤ 16 * k := by simp; omega
    have hlen := ctrBlocks_length h nonce k (c + 1) hrest
    obtain ⟨x, hx⟩ : ∃ x, x = xorBytes (bs.take 16) (aesEncrypt key (nonce ++ beBytes 4 c)) := ⟨_, rfl⟩
    have hxlen : x.length = min 16 bs.length := by
      rw [hx, xorBytes_length, aesEncrypt_length _ h, List.length_take]
      omega
    have hback : xorBytes x (aesEncrypt key (nonce ++ beBytes 4 c)) = bs.take 16 := by
      rw [hx]
      exact xorBytes_cancel (by rw [aesEncrypt_length _ h, List.length_take]; omega)
    have hsplit : (x ++ ctrBlocks key nonce k (c + 1) (bs.drop 16)).take 16 = x
        ∧ (x ++ ctrBlocks key nonce k (c + 1) (bs.drop 16)).drop 16 = ctrBlocks key nonce k (c + 1) (bs.drop 16) := by
      by_cases hfull : 16 ≤ bs.length
      · have hx16 : x.length = 16 := by omega
        exact ⟨List.take_left' hx16, List.drop_left' hx16⟩
      · have hnil : ctrBlocks key nonce k (c + 1) (bs.drop 16) = [] := by
          rw [← List.length_eq_zero_iff, hlen, List.length_drop]
          omega
        rw [hnil, List.append_nil]
        exact ⟨List.take_of_length_le (by omega), List.drop_of_length_le (by omega)⟩
    obtain ⟨htake, hdrop⟩ := hsplit
    have honce : ctrBlocks key nonce (k + 1) c bs = x ++ ctrBlocks key nonce k (c + 1) (bs.drop 16) := by rw [ctrBlocks, ← hx]
    rw [honce, ctrBlocks, htake, hdrop, hback, ih (c + 1) hrest, List.take_append_drop]

theorem length_le_ceilDiv_mul (n : Nat) : n ≤ 16 * ceilDiv n 16 := by
  have := le_ceilDiv_mul (b := 16) (by omega) n
  omega

theorem gcmCrypt_length {key : Bytes} (h : key.length = 32) (nonce text : Bytes) : (gcmCrypt key nonce text).length = text.length :=
  ctrBlocks_length h nonce _ 2 (length_le_ceilDiv_mul _)

theorem gcmCrypt_twice {key : Bytes} (h : key.length = 32) (nonce text : Bytes) :
    gcmCrypt key nonce (gcmCrypt key nonce text) = text := by
  have hlen := gcmCrypt_length h nonce text
  rw [gcmCrypt, hlen]
  exact ctrBlocks_twice h nonce _ 2 (length_le_ceilDiv_mul _)

theorem gcmTag_length {key : Bytes} (h : key.length = 32) (hashKey nonce aad ct : Bytes) : (gcmTag key hashKey nonce aad ct).length = 16 := by
  rw [gcmTag, xorBytes_length, aesEncrypt_length _ h, ghash, beBytes_length]
  rfl

/-! ### Envelopes (R2, R5) -/

theorem envelopeHeader_length (outer : Bytes) (envType : Nat) (phase : Phase) (padded : Bool) (channel pn : Nat) :
    (envelopeHeader outer envType phase padded channel pn).length = outer.length + 10 := by
  simp [envelopeHeader, u16_length, u32, beBytes_length]

theorem buildEnvelope_eq {e : Entry} {pn : Nat} (f : Fetched) (h : e.pn = some pn) : buildEnvelope e f
    = envelopeHeader (outerBytes e) f.envType f.phase e.env.padded f.channel pn
      ++ gcmCrypt f.material (f.salt ++ u32 pn) (entryPlaintext e)
      ++ gcmTag f.material f.hashKey (f.salt ++ u32 pn) (envelopeHeader (outerBytes e) f.envType f.phase e.env.padded f.channel pn)
        (gcmCrypt f.material (f.salt ++ u32 pn) (entryPlaintext e)) := by
  rw [buildEnvelope, h]
  rfl

/-- R6: the AAD, ciphertext and tag of a lane open under the key and salt that made them. -/
theorem openEnvelope_of_parts {e : Entry} {f : Fetched} {aad plaintext crc : Bytes} {pn : Nat} (hkey : f.material.length = 32)
    (hpn : e.pn = some pn) (haad : aad.length = 22 + tagBytes e.env.x) (hct : e.env.ctLen = plaintext.length)
    (hdata : e.data = aad ++ gcmCrypt f.material (f.salt ++ u32 pn) plaintext
      ++ gcmTag f.material f.hashKey (f.salt ++ u32 pn) aad (gcmCrypt f.material (f.salt ++ u32 pn) plaintext) ++ crc) :
    openEnvelope e f = some (aad ++ plaintext) := by
  have hctlen := gcmCrypt_length hkey (f.salt ++ u32 pn) plaintext
  have htaglen := gcmTag_length hkey f.hashKey (f.salt ++ u32 pn) aad (gcmCrypt f.material (f.salt ++ u32 pn) plaintext)
  have hback := gcmCrypt_twice hkey (f.salt ++ u32 pn) plaintext
  generalize hc : gcmCrypt f.material (f.salt ++ u32 pn) plaintext = ct at hdata hctlen htaglen hback
  generalize htag : gcmTag f.material f.hashKey (f.salt ++ u32 pn) aad ct = tag at hdata htaglen
  have hfirst : slice e.data 0 (22 + tagBytes e.env.x) = aad := by
    rw [hdata, slice, List.drop_zero, List.append_assoc, List.append_assoc, List.take_left' haad]
  have hmiddle : slice e.data (22 + tagBytes e.env.x) e.env.ctLen = ct := by
    rw [hdata, slice, List.append_assoc, List.append_assoc, List.drop_left' haad, List.take_left' (by rw [hct, hctlen])]
  have hlast : slice e.data (22 + tagBytes e.env.x + e.env.ctLen) 16 = tag := by
    rw [hdata, slice, List.append_assoc (aad ++ ct), List.drop_left' (by rw [List.length_append, haad, hct, hctlen]),
      List.take_left' htaglen]
  have hnum : e.pn.getD 0 = pn := by rw [hpn]; rfl
  simp only [openEnvelope, receivedAad, hfirst, hmiddle, hlast, hnum, htag, hback, if_true]

end Sys2Proof.Machine
end

section
/-! SUPPORT. The grant of a lane and its completion, for a queue cut at the entry concerned (R119 to R121, R131). -/

namespace Sys2Proof.Machine

/-! ### First of a round (R119) -/

theorem find?_finRange_of_first {m : Nat} {p : Fin m → Bool} (i : Fin m) (hi : p i = true) (hbefore : ∀ j < i, p j = false) :
    (List.finRange m).find? p = some i := by
  rw [List.find?_eq_some_iff_getElem]
  refine ⟨hi, i.val, by simp, by simp, fun j hj => ?_⟩
  have hj' : j < m := hj.trans i.isLt
  simpa using hbefore ⟨j, hj'⟩ hj

theorem State.idleLane_of_first {s : State} {l : LaneId} (hl : s.lane l = .idle) (hbefore : ∀ l' < l, s.lane l' ≠ .idle) :
    s.idleLane = some l :=
  find?_finRange_of_first l (beq_iff_eq.2 hl) fun l' h => beq_eq_false_iff_ne.2 (hbefore l' h)

theorem State.idleLane_of_none {s : State} (h : ∀ l, s.lane l ≠ .idle) : s.idleLane = none :=
  List.find?_eq_none.2 fun l _ => by simpa using h l

theorem State.offers_iff (s : State) (i : Fin 8) : s.offers i = true
    ↔ ∃ e ∈ (s.path (requesterQueue i).1 (requesterQueue i).2).queue, e.state = .waiting := by
  simp [State.offers]

theorem State.firstOffer_of_first {s : State} {i j : Fin 8} (hi : i = s.lastGrant + 1 + j) (hoffer : s.offers i = true)
    (hbefore : ∀ j' < j, s.offers (s.lastGrant + 1 + j') = false) : (roundRobin s.lastGrant).find? s.offers = some i := by
  have hfirst : (List.finRange 8).find? (s.offers ∘ fun j => s.lastGrant + 1 + j) = some j :=
    find?_finRange_of_first j (by rwa [Function.comp_apply, ← hi]) hbefore
  rw [roundRobin, List.find?_map, hfirst, hi]
  rfl

/-! ### A queue cut at one entry -/

theorem find?_cut {p : Entry → Bool} {before after : List Entry} {e : Entry} (hb : ∀ x ∈ before, p x = false) (he : p e = true) :
    (before ++ e :: after).find? p = some e := by
  rw [List.find?_append, List.find?_eq_none.2 fun x hx => by simp [hb x hx], List.find?_cons_of_pos he]
  rfl

theorem grantFirst_cut (l : LaneId) {before after : List Entry} {e : Entry} (hb : ∀ x ∈ before, x.state ≠ .waiting)
    (he : e.state = .waiting) : grantFirst l (before ++ e :: after) = before ++ { e with state := .inLane l } :: after := by
  induction before with
  | nil => exact if_pos he
  | cons x before ih =>
    rw [List.cons_append, grantFirst, if_neg (hb x List.mem_cons_self), ih fun y hy => hb y (List.mem_cons_of_mem x hy)]
    rfl

theorem map_cut {f : Entry → Entry} {before after : List Entry} {e : Entry} (h : ∀ x ∈ before ++ after, f x = x) :
    (before ++ e :: after).map f = before ++ f e :: after := by
  rw [List.map_append, List.map_cons, List.map_congr_left (g := id) fun x hx => h x (List.mem_append_left _ hx),
    List.map_congr_left (g := id) fun x hx => h x (List.mem_append_right _ hx), List.map_id, List.map_id]

theorem mapLane_cut {l : LaneId} (f : Entry → Entry) {before after : List Entry} {e : Entry} (he : e.state = .inLane l)
    (h : ∀ x ∈ before ++ after, x.state ≠ .inLane l) : mapLane l f (before ++ e :: after) = before ++ f e :: after := by
  rw [mapLane, map_cut fun x hx => if_neg (h x hx), if_pos he]

theorem filter_cut {p : Entry → Bool} {before after : List Entry} {e : Entry} (he : p e = true) (h : ∀ x ∈ before ++ after, p x = false) :
    (before ++ e :: after).filter p = [e] := by
  rw [List.filter_append, List.filter_cons_of_pos he, List.filter_eq_nil_iff.2 fun x hx => by simp [h x (List.mem_append_left _ hx)],
    List.filter_eq_nil_iff.2 fun x hx => by simp [h x (List.mem_append_right _ hx)]]
  rfl

/-- R113: one chosen entry, dropped in place. -/
theorem State.dropEntries_cut {s : State} {d : Dir} {n : LinkId} {chosen : Entry → Bool} (why : Reason) {before after : List Entry}
    {e : Entry} (hq : (s.path d n).queue = before ++ e :: after) (he : chosen e = true) (hlive : e.isDropped = false)
    (h : ∀ x ∈ before ++ after, chosen x = false) : s.dropEntries d n chosen why
      = (((s.setQueue d n (before ++ e.drop why :: after)).countDrop d n why 1).freeCells d n e.cells) := by
  have hfilter : (before ++ e :: after).filter (fun x => chosen x && !x.isDropped) = [e] :=
    filter_cut (by simp [he, hlive]) fun x hx => by simp [h x hx]
  have hmap : (before ++ e :: after).map (fun x => if chosen x && !x.isDropped then x.drop why else x) = before ++ e.drop why :: after := by
    rw [map_cut fun x hx => by simp [h x hx]]
    simp [he, hlive]
  simp only [State.dropEntries, hq, cellsOf, hfilter, hmap]
  rfl

/-! ### Completion (R121, R131) -/

theorem State.completeLane_of_busy {s : State} {l : LaneId} {d : Dir} {n : LinkId} {f : Fetched} {before after : List Entry} {e : Entry}
    (hl : s.lane l = .busy d n f) (hq : (s.path d n).queue = before ++ e :: after) (he : e.state = .inLane l)
    (h : ∀ x ∈ before ++ after, x.state ≠ .inLane l) :
    s.completeLane l = (((s.setLane l .idle).completeEntry l d n f e).lowerCount e).finish d n := by
  have hfind : ((s.setLane l .idle).path d n).queue.find? (fun e => e.state == .inLane l) = some e := by
    rw [State.path_setLane, hq]
    exact find?_cut (fun x hx => beq_eq_false_iff_ne.2 (h x (List.mem_append_left _ hx))) (beq_iff_eq.2 he)
  simp only [State.completeLane, hl, hfind]

theorem State.lowerCount_eq (s : State) {e : Entry} {a : AssocId} {p : Phase} (ha : e.assoc = some a) (hp : e.key = some p) :
    s.lowerCount e = (s.setRecord a ((s.record a).mapKey p Key.letGo)).storeActs a := by simp only [State.lowerCount, ha, hp]

theorem State.recordTagFail_eq {s : State} {a : AssocId} {p : Phase} {k : Key} (pn : Nat) (hk : (s.record a).keyOf p = some k) :
    s.recordTagFail a p pn = if k.tagFailed then s.setRecord a { s.record a with tagFails := sat48 (s.record a).tagFails 1 }
      else (s.setRecord a (({ s.record a with tagFails := sat48 (s.record a).tagFails 1 } : Record).mapKey p
          fun k => { k with tagFailed := true })).notify
        (.tagFail a (s.record a).link (s.record a).generation k.phase k.check pn (sat48 (s.record a).tagFails 1)) := by
  simp only [State.recordTagFail, hk]

end Sys2Proof.Machine
end

section
/-! Certificates: the cipher lanes. -/

namespace Sys2Proof.Machine

/-- Settles O55. -/
theorem lanesTakeAndCompleteEntries : Obligations.LanesTakeAndCompleteEntries := by
  refine ⟨?_, fun s => ⟨fun h => congrArg Host.Outcome.next ?_, ?_⟩, fun s l => ⟨fun h => congrArg Host.Outcome.next ?_, ?_⟩⟩
  · rintro e e' f f' pn tag outer header plaintext crc hpn htag houter hheader hplain
    obtain rfl : tag = tagBytes e.env.x := htag
    have houter' : outerBytes e = outer := by
      rw [houter, outerBytes]
      cases e.kind <;> rfl
    have hheader' : envelopeHeader (outerBytes e) f.envType f.phase e.env.padded f.channel pn = header := by
      rw [hheader, houter']
      rfl
    have hplain' : entryPlaintext e = plaintext := by
      rw [hplain, entryPlaintext]
      cases e.kind <;> rfl
    have hbuild := buildEnvelope_eq f hpn
    rw [hheader', hplain'] at hbuild
    refine ⟨?_, fun hkey => ?_, fun hkey hlen hdata hpn' hx hct hmaterial hhash hsalt => ?_⟩
    · rw [hbuild, List.append_assoc, List.take_left' rfl]
    · rw [hbuild, List.length_append, List.length_append, gcmCrypt_length hkey, gcmTag_length hkey]
    · rw [← hmaterial, ← hhash, ← hsalt] at hbuild
      refine openEnvelope_of_parts (crc := crc) (hmaterial ▸ hkey) hpn' ?_ hct (by rw [hdata, hbuild])
      rw [← hheader', envelopeHeader_length, houter', hlen, hx]
      omega
  · unfold State.grant
    split
    next l i hl hi =>
      obtain h | h := h
      · rw [State.idleLane_of_none h] at hl
        cases hl
      · obtain ⟨e, he, hw⟩ := (s.offers_iff i).1 (List.find?_some hi)
        exact absurd hw (h _ _ e he)
    next => rfl
  · rintro l i d n before after e j hl hlow hi hdn hq hbefore he hnone
    refine ⟨congrArg Host.Outcome.next ?_, fun a p k ha hp hk => ?_⟩
    · have hlane := State.idleLane_of_first hl hlow
      have hoffer := State.firstOffer_of_first hi ((s.offers_iff i).2 ⟨e, by rw [← hdn, hq]; simp, he⟩) fun j' hj =>
        Bool.eq_false_iff.2 fun h => by
          obtain ⟨x, hx, hw⟩ := (s.offers_iff _).1 h
          exact hnone j' hj x hx hw
      have hfind : (before ++ e :: after).find? (fun e => e.state == .waiting) = some e :=
        find?_cut (fun x hx => beq_eq_false_iff_ne.2 (hbefore x hx)) (beq_iff_eq.2 he)
      simp only [State.grant, hlane, hoffer, ← hdn, hq, hfind, grantFirst_cut l hbefore he]
    · simp [State.fetch, ha, hp, hk]
  · unfold State.completeLane
    split
    next d n f hl => exact absurd hl (h d n f)
    next => rfl
  · rintro d n f before after e a p hl hq he hother ha hp
    have hcomplete := State.completeLane_of_busy hl hq he hother
    have hq' : ((s.setLane l .idle).path d n).queue = before ++ e :: after := by rw [State.path_setLane, hq]
    refine ⟨fun hd => congrArg Host.Outcome.next ?_, fun hd data hopen => congrArg Host.Outcome.next ?_,
      fun hd hopen r k s1 s2 hr hk hs1 hs2 => congrArg Host.Outcome.next ?_, fun s1 => s1.lowerCount_eq ha hp⟩
    · subst hd
      refine hcomplete.trans ?_
      simp only [State.completeEntry, hq', mapLane_cut _ he hother]
    · subst hd
      refine hcomplete.trans ?_
      simp only [State.completeEntry, hopen, hq', mapLane_cut _ he hother]
    · subst hd hr
      have hlive : e.isDropped = false := by rw [Entry.isDropped, he]
      have hdrop := (State.dropEntries_cut (chosen := fun e => e.state == .inLane l) .tagFail hq' (beq_iff_eq.2 he) hlive
        fun x hx => beq_eq_false_iff_ne.2 (hother x hx)).trans hs1.symm
      have hrecord : s1.record a = s.record a := by rw [← hdrop, State.record_dropEntries, State.record_setLane]
      refine hcomplete.trans (congrArg (fun t : State => (t.lowerCount e).finish .ingress n) ?_)
      simp only [State.completeEntry, hopen, ha, hp]
      rw [hdrop, State.recordTagFail_eq _ (hrecord ▸ hk), hs2, hrecord]
      rfl

end Sys2Proof.Machine
end

section
/-! SUPPORT. The restored frame, and the release of the head of an ingress queue (R13, R14, R132, R136). -/

namespace Sys2Proof.Machine

/-! ### Unpadding (R13, R14) -/

theorem zeros_length (n : Nat) : (zeros n).length = n := List.length_replicate

theorem unpad_unpadded (p : Bytes) : unpad false p = some p := rfl

theorem unpad_true (p : Bytes) : unpad true p
    = if numAt p (p.length - 2) 2 + 4 ≤ p.length
        ∧ slice p (p.length - 2 - numAt p (p.length - 2) 2) (numAt p (p.length - 2) 2) = zeros (numAt p (p.length - 2) 2)
      then some (p.take (p.length - numAt p (p.length - 2) 2 - 2)) else none := rfl

theorem unpad_of_good {p : Bytes} {z : Nat} (hz : z = numAt p (p.length - 2) 2) (hlen : z + 4 ≤ p.length)
    (hzeros : slice p (p.length - 2 - z) z = zeros z) : unpad true p = some (p.take (p.length - z - 2)) := by
  rw [unpad_true, ← hz, if_pos ⟨hlen, hzeros⟩]

theorem unpad_of_bad {p : Bytes} {z : Nat} (hz : z = numAt p (p.length - 2) 2)
    (h : p.length < z + 4 ∨ slice p (p.length - 2 - z) z ≠ zeros z) : unpad true p = none := by
  rw [unpad_true, ← hz, if_neg fun ⟨hlen, hzeros⟩ => h.elim (Nat.not_lt.2 hlen) (absurd hzeros)]

theorem numAt_take {p : Bytes} {start len k : Nat} (h : start + len ≤ k) : numAt (p.take k) start len = numAt p start len := by
  rw [numAt, numAt, slice, slice, List.drop_take, List.take_take, Nat.min_eq_left (by omega)]

theorem numAt_slice {p : Bytes} {start len k : Nat} (h : len ≤ k) : numAt (slice p start k) 0 len = numAt p start len := by
  rw [numAt, numAt, slice, slice, slice, List.drop_zero, List.take_take, Nat.min_eq_left h]

/-- R13: the trailer that unpadding reads is the one that padding writes. -/
theorem unpad_padded {kept : Bytes} {z : Nat} (hlen : 2 ≤ kept.length) (hz : z < 65536) :
    unpad true (kept ++ (zeros z ++ u16 z)) = some kept := by
  have hlength : (kept ++ (zeros z ++ u16 z)).length = kept.length + z + 2 := by
    rw [List.length_append, List.length_append, zeros_length, u16_length, Nat.add_assoc]
  have htrailer : numAt (kept ++ (zeros z ++ u16 z)) ((kept ++ (zeros z ++ u16 z)).length - 2) 2 = z := by
    rw [hlength, numAt, slice, ← List.append_assoc, List.drop_left' (by rw [List.length_append, zeros_length]; rfl),
      List.take_of_length_le (u16_length z).le, beNat_u16 hz]
  have hzeros : slice (kept ++ (zeros z ++ u16 z)) ((kept ++ (zeros z ++ u16 z)).length - 2 - z) z = zeros z := by
    rw [hlength, slice, List.drop_left' (by omega), List.take_left' (zeros_length z)]
  rw [unpad_of_good htrailer.symm (by omega) hzeros, hlength, List.take_left' (by omega)]

theorem restoreFrame_eq {x : Bool} {header : Bytes} (padded : Bool) (p : Bytes) (h : header.length = 22 + tagBytes x) :
    restoreFrame x padded (header ++ p) = (unpad padded p).bind fun kept =>
      if kept.length + 16 + tagBytes x < 64 then none else some (header.take (12 + tagBytes x) ++ kept, numAt kept 0 2) := by
  have hheader : slice (header ++ p) 0 (12 + tagBytes x) = header.take (12 + tagBytes x) := by
    rw [slice, List.drop_zero, List.take_append_of_le_length (by omega)]
  rw [restoreFrame, List.drop_left' h, hheader]
  cases unpad padded p <;> rfl

/-! ### The release of the head (R132, R136) -/

theorem State.releaseHead_of_empty {s : State} {n : LinkId} (hq : (s.path .ingress n).queue = []) : s.releaseHead n = s := by
  simp only [State.releaseHead, hq]

theorem State.releaseHead_of_not_verified {s : State} {n : LinkId} {e : Entry} {rest : List Entry}
    (hq : (s.path .ingress n).queue = e :: rest) (h : e.state ≠ .verified) : s.releaseHead n = s := by
  simp only [State.releaseHead, hq]
  exact if_neg h

theorem State.releaseHead_of_verified {s : State} {n : LinkId} {e : Entry} {rest : List Entry} {a : AssocId} {p : Phase} {pn : Nat} {k : Key}
    (hq : (s.path .ingress n).queue = e :: rest) (h : e.state = .verified) (ha : e.assoc = some a) (hp : e.key = some p)
    (hpn : e.pn = some pn) (hk : (s.record a).keyOf p = some k) : s.releaseHead n
      = (k.window.test pn).elim (((s.setRecord a ((s.record a).acceptPn p pn)).requestRollover a p).deliver n a e)
        (s.dropHead .ingress n) := by
  simp only [State.releaseHead, hq, ha, hp, hpn, hk]
  rw [if_pos h]
  cases k.window.test pn <;> rfl

/-- R135, R136: a rollover is requested by an entry under the READY NXT key of a LIVE record. -/
theorem State.requestRollover_eq (s : State) (a : AssocId) (p : Phase) : s.requestRollover a p
    = if (∃ x, (s.record a).nxt = some x ∧ x.phase = p ∧ x.state = .ready) ∧ (s.record a).state = .live then
        (if (s.record a).old = none then s.rollIngress a else s.setRecord a { s.record a with wanted := true })
      else s := by
  unfold State.requestRollover
  dsimp only
  rcases hnxt : (s.record a).nxt with _ | k
  · simp
  · by_cases hask : k.phase = p ∧ k.state = .ready ∧ (s.record a).state = .live
    · have hcond : (∃ x, some k = some x ∧ x.phase = p ∧ x.state = .ready) ∧ (s.record a).state = .live :=
        ⟨⟨k, rfl, hask.1, hask.2.1⟩, hask.2.2⟩
      dsimp only
      rw [if_pos hask, if_pos hcond]
      cases (s.record a).old <;> rfl
    · have hcond : ¬((∃ x, some k = some x ∧ x.phase = p ∧ x.state = .ready) ∧ (s.record a).state = .live) := by
        rintro ⟨⟨x, hx, hphase, hready⟩, hlive⟩
        obtain rfl := Option.some.inj hx
        exact hask ⟨hphase, hready, hlive⟩
      dsimp only
      rw [if_neg hask, if_neg hcond]

theorem State.params_requestRollover (s : State) (a : AssocId) (p : Phase) (n : LinkId) : (s.requestRollover a p).params n = s.params n := by
  rw [State.params, State.link, State.links_requestRollover]
  rfl

theorem State.port_requestRollover (s : State) (a : AssocId) (p : Phase) (side : Side) (n : LinkId) :
    (s.requestRollover a p).port side n = s.port side n := by
  rw [State.port, State.link, State.links_requestRollover]
  rfl

end Sys2Proof.Machine
end

section
/-! Certificates: the release of a head. -/

namespace Sys2Proof.Machine

/-- Settles O56. -/
theorem headReleaseOpensAFrame : Obligations.HeadReleaseOpensAFrame := by
  refine ⟨?_, ?_, fun s n => ⟨fun h => congrArg Host.Outcome.next ?_, ?_⟩⟩
  · rintro x padded header p tag z htag hheader hz
    obtain rfl : tag = tagBytes x := htag
    rw [restoreFrame_eq padded p hheader]
    cases padded
    · rw [if_pos rfl, unpad_unpadded]
      rfl
    · rw [if_neg (by decide)]
      by_cases hbad : p.length < z + 4 ∨ slice p (p.length - 2 - z) z ≠ zeros z
      · rw [unpad_of_bad hz hbad, if_pos (hbad.elim .inl (.inr ∘ .inl))]
        rfl
      · obtain ⟨hlen, hzeros⟩ := not_or.1 hbad
        have hkept : (p.take (p.length - z - 2)).length = p.length - z - 2 := by rw [List.length_take]; omega
        rw [unpad_of_good hz (Nat.not_lt.1 hlen) (not_not.1 hzeros), Option.bind_some, hkept, numAt_take (by omega)]
        refine if_congr ?_ rfl rfl
        simp only [hlen, hzeros, false_or]
  · rintro v f header tag htag hlen hz hheader htake
    obtain rfl : tag = tagBytes v.x := htag
    have htag : tagBytes v.x ≤ 4 := by cases v.x <;> decide
    have hkept : (slice f (12 + tagBytes v.x) (f.length - 16 - tagBytes v.x)).length = f.length - 16 - tagBytes v.x :=
      slice_length (by omega)
    have hunpad : unpad v.padded (plaintextOf v f) = some (slice f (12 + tagBytes v.x) (f.length - 16 - tagBytes v.x)) := by
      rw [plaintextOf]
      cases hpad : v.padded
      · rw [padBytes_of_unpadded hpad, List.append_nil, unpad_unpadded]
      · rw [padBytes_of_padded hpad, unpad_padded (by omega) hz]
    have hframe : f.take (12 + tagBytes v.x) ++ slice f (12 + tagBytes v.x) (f.length - 16 - tagBytes v.x) = f.take (f.length - 4) := by
      rw [slice, ← List.take_add]
      congr 1
      omega
    rw [restoreFrame_eq v.padded _ hheader, hunpad, Option.bind_some, if_neg (by omega), htake, hframe, numAt_slice (by omega)]
  · have hsame : s.releaseHead n = s := by
      rcases hq : (s.path .ingress n).queue with _ | ⟨e, rest⟩
      · exact State.releaseHead_of_empty hq
      · exact State.releaseHead_of_not_verified hq (h e (by rw [hq]; rfl)).1
    rw [hsame, State.finish_of_head s .ingress n fun e he => ?_]
    · rfl
    · obtain ⟨hverified, hdropped, hdone⟩ := h e he
      exact ⟨hdropped, .inr ⟨hdone, .inl hverified⟩⟩
  · rintro e rest a p pn r k hq hverified ha hp hpn rfl hk
    have hrelease := State.releaseHead_of_verified hq hverified ha hp hpn hk
    refine ⟨fun why hwhy => congrArg Host.Outcome.next ?_, fun hpass r1 s1 hr1 hs1 => ?_⟩
    · rw [hrelease, hwhy]
      rfl
    · have hroll : (s.setRecord a r1).requestRollover a p = s1 := by
        have hstate : r1.state = (s.record a).state := by rw [hr1, Record.mapKey]
        have hold : r1.old = none ↔ (s.record a).old = none := by rw [hr1, Record.mapKey, Option.map_eq_none_iff]
        rw [hs1, State.requestRollover_eq, State.record_setRecord_same, State.setRecord_setRecord]
        exact if_congr (by rw [hstate]) (if_congr hold rfl rfl) rfl
      have hparams : s1.params n = s.params n := by rw [← hroll, State.params_requestRollover, State.params_setRecord]
      have hport : s1.port .rack n = s.port .rack n := by rw [← hroll, State.port_requestRollover, State.port_setRecord]
      rw [hpass] at hrelease
      replace hrelease : s.releaseHead n = s1.deliver n a e := by rw [hrelease, ← hroll, hr1]; rfl
      have hqueue : (s1.path .ingress n).queue = e :: rest := by
        rw [← hroll, State.requestRollover_path, State.path_setRecord, hq]
      refine ⟨fun hbad => congrArg Host.Outcome.next ?_, fun frame firstTwo hgood => ⟨fun hcover => congrArg Host.Outcome.next ?_,
        fun hcover hdown => congrArg Host.Outcome.next ?_, fun hcover hup => congrArg Host.Outcome.next ?_⟩⟩
      · rw [hrelease]
        simp only [State.deliver, hbad]
      · rw [hrelease]
        simp only [State.deliver, hgood]
        rw [if_pos (hparams ▸ hcover)]
      · rw [hrelease]
        simp only [State.deliver, hgood]
        rw [if_neg (hparams ▸ hcover), if_neg]
        rw [hport]
        exact Bool.eq_false_iff.1 hdown
      · rw [hrelease]
        simp only [State.deliver, hgood]
        rw [if_neg (hparams ▸ hcover), if_pos (hport ▸ hup), State.handOver, hqueue]
        refine State.finish_of_head _ _ _ fun x hx => ?_
        rw [State.setQueue, State.path_setPath_same] at hx
        obtain rfl := Option.some.inj hx
        refine ⟨rfl, .inl ?_⟩
        rw [State.setQueue, State.port_setPath]
        exact hport ▸ hup

end Sys2Proof.Machine
end

section
/-! SUPPORT. The hold of an ingress record under its new key: which entries are dropped, which are entered, and what is counted (R126). -/

namespace Sys2Proof.Machine

/-! ### Discard counters (R147) -/

theorem Counters.discard_addDiscard_same (c : Counters) (why : Reason) (k : Nat) :
    (c.addDiscard why k).discard why = sat48 (c.discard why) k :=
  Vector.getElem_set_self _

theorem Counters.discard_addDiscard_ne (c : Counters) {why why' : Reason} (h : why.place ≠ why'.place) (k : Nat) :
    (c.addDiscard why k).discard why' = c.discard why' :=
  Vector.getElem_set_ne why.place.isLt why'.place.isLt (Fin.val_ne_of_ne h)

/-! ### The fate of a held envelope under a key with an empty window (R126, R130) -/

theorem Window.test_empty (w pn : Nat) : (Window.empty w).test pn = if pn = 0 then some .badPn else none := by
  rw [Window.test, Window.empty]
  split
  · rfl
  · rw [if_neg fun h => absurd h.1 (Nat.not_lt_zero w), if_neg List.not_mem_nil]

/-- A held envelope of record `a` with the key's phase and a packet number that is not 0. -/
def Entry.entersUnder (a : AssocId) (p : Phase) (e : Entry) : Bool := e.isHeldOf a && e.phase == p && e.pn.getD 0 != 0

/-- A held envelope of record `a` with another phase. -/
def Entry.holdsOtherPhase (a : AssocId) (p : Phase) (e : Entry) : Bool := e.isHeldOf a && e.phase != p

/-- A held envelope of record `a` with the key's phase and packet number 0. -/
def Entry.holdsZeroPn (a : AssocId) (p : Phase) (e : Entry) : Bool := e.isHeldOf a && e.phase == p && e.pn.getD 0 == 0

section
variable {a : AssocId} {p : Phase} {e : Entry}

theorem Entry.isHeldOf_of_holdsOtherPhase (h : e.holdsOtherPhase a p = true) : e.isHeldOf a = true := (Bool.and_eq_true_iff.1 h).1

theorem Entry.isHeldOf_of_holdsZeroPn (h : e.holdsZeroPn a p = true) : e.isHeldOf a = true :=
  (Bool.and_eq_true_iff.1 (Bool.and_eq_true_iff.1 h).1).1

theorem Entry.not_holdsZeroPn_of_holdsOtherPhase (h : e.holdsOtherPhase a p = true) : e.holdsZeroPn a p = false := by
  have hphase : e.phase ≠ p := bne_iff_ne.1 (Bool.and_eq_true_iff.1 h).2
  simp [Entry.holdsZeroPn, hphase]

/-- The three kinds are all that a hold has, and they exclude each other. -/
theorem Entry.entersUnder_eq (a : AssocId) (p : Phase) (e : Entry) :
    e.entersUnder a p = (e.isHeldOf a && !e.holdsOtherPhase a p && !e.holdsZeroPn a p) := by
  rw [Entry.entersUnder, Entry.holdsOtherPhase, Entry.holdsZeroPn, bne, bne]
  cases e.isHeldOf a
  · rfl
  · cases e.phase == p
    · rfl
    · cases e.pn.getD 0 == 0 <;> rfl

theorem Entry.not_isHeldOf_drop (a : AssocId) (e : Entry) (why : Reason) : (e.drop why).isHeldOf a = false := rfl

theorem Entry.not_holdsZeroPn_drop (a : AssocId) (p : Phase) (e : Entry) (why : Reason) : (e.drop why).holdsZeroPn a p = false := rfl

end

section
variable {a : AssocId} {k : Key} {w : Nat}

theorem heldFails_empty (hk : k.window = Window.empty w) (e : Entry) : heldFails a k e
    = if e.holdsOtherPhase a k.phase then some .unknownPhase else if e.holdsZeroPn a k.phase then some .badPn else none := by
  unfold heldFails Entry.holdsOtherPhase Entry.holdsZeroPn
  rw [hk, Window.test_empty]
  by_cases hphase : e.phase = k.phase <;> cases e.isHeldOf a <;> simp [hphase]

theorem heldFails_unknownPhase (hk : k.window = Window.empty w) :
    (fun e => heldFails a k e == some Reason.unknownPhase) = Entry.holdsOtherPhase a k.phase := by
  funext e
  rw [heldFails_empty hk]
  cases e.holdsOtherPhase a k.phase
  · cases e.holdsZeroPn a k.phase <;> rfl
  · rfl

theorem heldFails_badPn (hk : k.window = Window.empty w) :
    (fun e => heldFails a k e == some Reason.badPn) = Entry.holdsZeroPn a k.phase := by
  funext e
  rw [heldFails_empty hk]
  rcases h : e.holdsOtherPhase a k.phase
  · cases e.holdsZeroPn a k.phase <;> rfl
  · rw [Entry.not_holdsZeroPn_of_holdsOtherPhase h]
    rfl

theorem heldFails_never (hk : k.window = Window.empty w) {why : Reason} (h : why ≠ .unknownPhase) (h' : why ≠ .badPn) :
    (fun e => heldFails a k e == some why) = fun _ => false := by
  funext e
  rw [heldFails_empty hk, beq_eq_false_iff_ne]
  cases e.holdsOtherPhase a k.phase
  · cases e.holdsZeroPn a k.phase
    · exact nofun
    · exact fun heq => h' (Option.some.inj heq).symm
  · exact fun heq => h (Option.some.inj heq).symm

end

/-! ### Queues of which some entries have been dropped -/

theorem filter_map_of_disjoint {p chosen : Entry → Bool} {f : Entry → Entry} (h : ∀ e, chosen e = true → p e = false)
    (hf : ∀ e, p (f e) = false) (q : List Entry) : (q.map fun e => if chosen e then f e else e).filter p = q.filter p := by
  induction q with
  | nil => rfl
  | cons e q ih =>
    rw [List.map_cons]
    rcases hc : chosen e
    · rw [if_neg Bool.false_ne_true, List.filter_cons, List.filter_cons, ih]
    · rw [if_pos rfl, List.filter_cons_of_neg (Bool.eq_false_iff.1 (hf e)), List.filter_cons_of_neg (Bool.eq_false_iff.1 (h e hc)), ih]

/-- R113: no entry is chosen. -/
theorem State.dropEntries_nothing (s : State) (d : Dir) (n : LinkId) (why : Reason) :
    ((s.dropEntries d n (fun _ => false) why).path d n).queue = (s.path d n).queue
      ∧ ((s.dropEntries d n (fun _ => false) why).path d n).counters = (s.path d n).counters.addDiscard why 0
      ∧ ((s.dropEntries d n (fun _ => false) why).path d n).free = (s.path d n).free
      ∧ s.sameCore (s.dropEntries d n (fun _ => false) why)
      ∧ ∀ d' m, (d', m) ≠ (d, n) → (s.dropEntries d n (fun _ => false) why).path d' m = s.path d' m := by
  obtain ⟨hq, hcounters, hfree, -, hcore, hother⟩ := s.dropEntries_of_live d n (chosen := fun _ => false) why fun _ => nofun
  have hnone : (s.path d n).queue.filter (fun _ => false) = [] := List.filter_eq_nil_iff.2 fun _ _ => Bool.false_ne_true
  rw [hnone] at hcounters hfree
  exact ⟨hq.trans (List.map_id _), hcounters, hfree, hcore, hother⟩

/-! ### The hold under its new key (R126) -/

/-- R126: the entry of a hold as the new key of phase `p` leaves it. -/
def settleHeld (a : AssocId) (p : Phase) (e : Entry) : Entry :=
  if e.entersUnder a p then { e with state := .waiting, key := some p }
  else if e.holdsOtherPhase a p then e.drop .unknownPhase
  else if e.holdsZeroPn a p then e.drop .badPn
  else e

/-- R126: the two drops of a hold, one after the other. -/
def dropUnfit (a : AssocId) (p : Phase) (q : List Entry) : List Entry :=
  (q.map fun e => if e.holdsOtherPhase a p then e.drop .unknownPhase else e).map fun e =>
    if e.holdsZeroPn a p then e.drop .badPn else e

/-- One entry through the two drops. -/
theorem dropUnfit_entry (a : AssocId) (p : Phase) (e : Entry) :
    (fun e : Entry => if e.holdsZeroPn a p then e.drop .badPn else e) (if e.holdsOtherPhase a p then e.drop .unknownPhase else e)
      = if e.holdsOtherPhase a p then e.drop .unknownPhase else if e.holdsZeroPn a p then e.drop .badPn else e := by
  dsimp only
  rcases e.holdsOtherPhase a p
  · rfl
  · rw [if_pos rfl, if_pos rfl, Entry.not_holdsZeroPn_drop, if_neg Bool.false_ne_true]

theorem isHeldOf_dropUnfit_entry (a : AssocId) (p : Phase) (e : Entry) :
    (if e.holdsOtherPhase a p then e.drop .unknownPhase else if e.holdsZeroPn a p then e.drop .badPn else e).isHeldOf a
      = e.entersUnder a p := by
  rw [Entry.entersUnder_eq]
  cases e.holdsOtherPhase a p
  · cases e.holdsZeroPn a p
    · simp
    · simp [Entry.not_isHeldOf_drop]
  · simp [Entry.not_isHeldOf_drop]

theorem enterHeld_dropUnfit (a : AssocId) (p : Phase) (q : List Entry) : (dropUnfit a p q).map (enterHeld a p) = q.map (settleHeld a p) := by
  rw [dropUnfit, List.map_map, List.map_map]
  refine List.map_congr_left fun e _ => ?_
  have hheld := isHeldOf_dropUnfit_entry a p e
  simp only [Function.comp_apply, dropUnfit_entry a p e]
  rw [enterHeld, hheld, settleHeld]
  rcases he : e.entersUnder a p
  · rfl
  · rw [Entry.entersUnder_eq] at he
    simp only [Bool.and_eq_true, Bool.not_eq_true'] at he
    obtain ⟨⟨-, hphase⟩, hpn⟩ := he
    rw [hphase, hpn]
    rfl

theorem countP_dropUnfit (a : AssocId) (p : Phase) (q : List Entry) :
    ((dropUnfit a p q).filter (Entry.isHeldOf a)).length = q.countP (Entry.entersUnder a p) := by
  rw [← List.countP_eq_length_filter, dropUnfit, List.map_map, List.countP_map]
  refine List.countP_congr fun e _ => ?_
  simp only [Function.comp_apply, dropUnfit_entry a p e, isHeldOf_dropUnfit_entry]

/-- R126: the hold of an ingress record whose new NXT key has an empty window. -/
theorem State.releaseIngressHold_spec {s : State} {a : AssocId} {k : Key} {w : Nat} {n : LinkId} (hn : (s.record a).link = n)
    (hk : k.window = Window.empty w) {t : State} (ht : t = s.releaseIngressHold a k) :
    (t.path .ingress n).queue = (s.path .ingress n).queue.map (settleHeld a k.phase)
    ∧ (t.path .ingress n).free = (s.path .ingress n).free
        + (((s.path .ingress n).queue.filter (Entry.holdsOtherPhase a k.phase)).map Entry.cells).sum
        + (((s.path .ingress n).queue.filter (Entry.holdsZeroPn a k.phase)).map Entry.cells).sum
    ∧ (t.path .ingress n).counters.discard .unknownPhase
        = sat48 ((s.path .ingress n).counters.discard .unknownPhase) ((s.path .ingress n).queue.countP (Entry.holdsOtherPhase a k.phase))
    ∧ (t.path .ingress n).counters.discard .badPn
        = sat48 ((s.path .ingress n).counters.discard .badPn) ((s.path .ingress n).queue.countP (Entry.holdsZeroPn a k.phase))
    ∧ (∀ d m, (d, m) ≠ (.ingress, n) → t.path d m = s.path d m)
    ∧ ∃ u : State, s.sameCore u ∧ t.lanes = u.lanes ∧ t.lastGrant = u.lastGrant ∧ t.rules = u.rules ∧ t.flow = u.flow
        ∧ t.device = u.device ∧ t.prov = u.prov ∧ t.control = u.control ∧ t.now = u.now ∧ t.pending = u.pending ∧ t.bank = u.bank
        ∧ ∀ b, t.record b = (s.setRecord a ((s.record a).mapKey k.phase fun x =>
            { x with inFlight := x.inFlight + (s.path .ingress n).queue.countP (Entry.entersUnder a k.phase) })).record b := by
  rw [State.releaseIngressHold, hn] at ht
  simp only [heldFails_unknownPhase hk, heldFails_badPn hk, heldFails_never hk (why := .late) nofun nofun,
    heldFails_never hk (why := .duplicate) nofun nofun] at ht
  obtain ⟨hq1, hc1, hf1, -, hcore1, hother1⟩ := s.dropEntries_of_live .ingress n (chosen := Entry.holdsOtherPhase a k.phase) .unknownPhase
    fun e h => Entry.not_isDropped_of_isHeldOf (Entry.isHeldOf_of_holdsOtherPhase h)
  generalize s.dropEntries .ingress n (Entry.holdsOtherPhase a k.phase) .unknownPhase = s1 at ht hq1 hc1 hf1 hcore1 hother1
  obtain ⟨hq2, hc2, hf2, -, hcore2, hother2⟩ := s1.dropEntries_of_live .ingress n (chosen := Entry.holdsZeroPn a k.phase) .badPn
    fun e h => Entry.not_isDropped_of_isHeldOf (Entry.isHeldOf_of_holdsZeroPn h)
  generalize s1.dropEntries .ingress n (Entry.holdsZeroPn a k.phase) .badPn = s2 at ht hq2 hc2 hf2 hcore2 hother2
  obtain ⟨hq3, hc3, hf3, hcore3, hother3⟩ := s2.dropEntries_nothing .ingress n .late
  generalize s2.dropEntries .ingress n (fun _ => false) .late = s3 at ht hq3 hc3 hf3 hcore3 hother3
  obtain ⟨hq4, hc4, hf4, hcore4, hother4⟩ := s3.dropEntries_nothing .ingress n .duplicate
  generalize s3.dropEntries .ingress n (fun _ => false) .duplicate = s4 at ht hq4 hc4 hf4 hcore4 hother4
  have hzero : (s1.path .ingress n).queue.filter (Entry.holdsZeroPn a k.phase)
      = (s.path .ingress n).queue.filter (Entry.holdsZeroPn a k.phase) := by
    rw [hq1]
    exact filter_map_of_disjoint (fun _ => Entry.not_holdsZeroPn_of_holdsOtherPhase) (fun e => Entry.not_holdsZeroPn_drop a _ e _) _
  have hqueue : (s4.path .ingress n).queue = dropUnfit a k.phase (s.path .ingress n).queue := by rw [hq4, hq3, hq2, hq1, dropUnfit]
  have hcore := ((hcore1.trans hcore2).trans hcore3).trans hcore4
  have hpath : t.path .ingress n = { s4.path .ingress n with queue := (s.path .ingress n).queue.map (settleHeld a k.phase) } := by
    rw [ht, State.path_setRecord, State.setQueue, State.path_setPath_same, hqueue, enterHeld_dropUnfit]
  rw [hqueue, countP_dropUnfit, enterHeld_dropUnfit] at ht
  rw [hpath]
  refine ⟨rfl, ?_, ?_, ?_, fun d m h => ?_, s4, hcore, ?_⟩
  · dsimp only
    rw [hf4, hf3, hf2, hf1, hzero]
  · dsimp only
    rw [hc4, Counters.discard_addDiscard_ne _ (by decide), hc3, Counters.discard_addDiscard_ne _ (by decide), hc2,
      Counters.discard_addDiscard_ne _ (by decide), hc1, Counters.discard_addDiscard_same, List.countP_eq_length_filter]
  · dsimp only
    rw [hc4, Counters.discard_addDiscard_ne _ (by decide), hc3, Counters.discard_addDiscard_ne _ (by decide), hc2,
      Counters.discard_addDiscard_same, hc1, Counters.discard_addDiscard_ne _ (by decide), hzero, List.countP_eq_length_filter]
  · rw [ht, State.path_setRecord, State.setQueue, State.path_setPath_ne _ _ h, hother4 d m h, hother3 d m h, hother2 d m h, hother1 d m h]
  · obtain ⟨hrecords, -⟩ := hcore
    have hrecord : ∀ b, s4.record b = s.record b := fun b => by rw [State.record, hrecords]; rfl
    subst ht
    refine ⟨rfl, rfl, rfl, rfl, rfl, rfl, rfl, rfl, rfl, rfl, fun b => ?_⟩
    by_cases hb : b = a
    · subst hb
      rw [State.record_setRecord_same, State.record_setRecord_same, hrecord]
    · rw [State.record_setRecord_ne _ _ hb, State.record_setRecord_ne _ _ hb]
      exact hrecord b

end Sys2Proof.Machine
end

section
/-! Certificates: the end of an install. -/

namespace Sys2Proof.Machine

/-- R50: the parts of the completion, as it is defined. -/
theorem State.completeInstall_eq (s : State) (i : Install) (key salt : Bytes) : s.completeInstall i key salt
    = ((if i.toNxt then (s.admitted i key salt).deferredRollover i.index else s.admitted i key salt).answerOnce .ok Flags.none
        (u16 i.index.val ++ u8 (if i.toNxt then 1 else 0) ++ u8 i.phase.val ++ checkValue key)).finish
        (s.record i.index).dir (s.record i.index).link := rfl

theorem u8_flag (b : Bool) : u8 (if b then 1 else 0) = [if b then 1 else 0] := by cases b <;> rfl

/-- R73: a rollover that waits is made when the record can roll over. -/
theorem State.deferredRollover_of {s : State} {a : AssocId} (hw : (s.record a).wanted = true) (hroll : (s.record a).canRoll = true) :
    s.deferredRollover a = match (s.record a).dir with | .egress => s.rollEgress a .limit | .ingress => s.rollIngress a :=
  if_pos ⟨hw, hroll⟩

/-- R73: no rollover is made while none waits, OLD is there, the record is in no state for it, or CUR is ABSENT. -/
theorem State.deferredRollover_unless {s : State} {a : AssocId}
    (h : ¬((s.record a).wanted = true ∧ (s.record a).old = none ∧ ((s.record a).state = .live ∨ (s.record a).state = .exhausted))
      ∨ (s.record a).cur = none) : s.deferredRollover a = s := by
  refine State.deferredRollover_of_not fun ⟨hw, hroll⟩ => ?_
  obtain ⟨hlive, hsome, -, hold⟩ := (Record.canRoll_iff _).1 hroll
  obtain h | h := h
  · exact h ⟨hw, hold, hlive⟩
  · simp [h] at hsome

/-- R30, R126: a count raised under a phase that only NXT has. -/
theorem Record.mapKey_nxt {r : Record} {k : Key} {p : Phase} (hother : ∀ c, r.cur = some c ∨ r.old = some c → c.phase ≠ p)
    (hk : k.phase = p) (f : Key → Key) : ({ r with nxt := some k } : Record).mapKey p f = { r with nxt := some (f k) } := by
  have hcur : r.cur.map (fun k => if k.phase = p then f k else k) = r.cur := by
    rcases hc : r.cur with _ | c
    · rfl
    · rw [Option.map_some, if_neg (hother c (.inl hc))]
  have hold : r.old.map (fun k => if k.phase = p then f k else k) = r.old := by
    rcases hc : r.old with _ | c
    · rfl
    · rw [Option.map_some, if_neg (hother c (.inr hc))]
  simp only [Record.mapKey, hcur, hold, Option.map_some, if_pos hk]

/-- Settles O34. -/
theorem installsComplete : Obligations.InstallsComplete := by
  rintro s i key salt check r k s1 n times hi hstage rfl rfl hcheck hk hs1 htimes replied waits
  have hkey : installedKey (s.record i.index) i key salt = k := by
    rw [hk, hcheck, installedKey, hashKeyOf, checkValue]
  have hcv : checkValue key = check := by rw [hcheck, checkValue]
  have hstate : k.state = if i.toNxt then .ready else .inUse := by rw [hk]
  have hphase : k.phase = i.phase := by rw [hk]
  have hkcheck : k.check = check := by rw [hk]
  have hflight : k.inFlight = 0 := by rw [hk]
  have hwindow : ∃ w, k.window = Window.empty w := ⟨_, by rw [hk]⟩
  have hservice : k.enterService = { k with state := .inUse } := by rw [hk]; rfl
  clear hk hcheck
  have hinstalled : s.installed i key salt = s1 := by
    rw [hs1, State.installed, hkey]
    cases i.toNxt <;> rfl
  have hexec : exec .installComplete s = .next
      ((replied (if i.toNxt then (s.admitted i key salt).deferredRollover i.index else s.admitted i key salt)).finish
        (s.record i.index).dir (s.record i.index).link) := by
    refine congrArg Host.Outcome.next ?_
    simp only [State.expansionEnds, hi, hstage]
    rw [State.completeInstall_eq, hcv, u8_flag]
  clear_value replied
  refine ⟨fun hn => ?_, fun hn hd => ?_, fun hn hd hphases => ?_⟩
  · rw [hexec, hn, if_neg Bool.false_ne_true, State.admitted, if_neg (by simp [hn]), hinstalled]
  · have hadmitted : s.admitted i key salt = s1 := by rw [State.admitted, if_neg (by simp [hd]), hinstalled]
    have hrecord : s1.record i.index = { s.record i.index with nxt := some k } := by
      rw [hs1, hn, if_pos rfl, State.record_withBank, State.record_setRecord_same]
    rw [hn, if_pos rfl, hadmitted, hd] at hexec
    rw [hexec]
    refine ⟨fun hnot => ?_, fun c r1 queue k1 notes count hwaits hcur hr1 hrel => ?_⟩
    · rw [State.deferredRollover_unless (by rw [hrecord]; exact hnot)]
    · obtain ⟨hw, hold, hlive⟩ := hwaits
      have hroll : (s1.record i.index).canRoll = true := by
        rw [Record.canRoll_iff, hrecord]
        exact ⟨hlive, by simp [hcur], slotIs_iff.2 ⟨k, rfl, by rw [hstate, if_pos hn]⟩, hold⟩
      have hrolled : (s1.record i.index).rollEgress c k = r1 := by rw [hr1, hrecord, Record.rollEgress, hservice]
      have hlink : (s1.record i.index).link = (s.record i.index).link := by rw [hrecord]
      have hpath : s1.path .egress (s.record i.index).link = s.path .egress (s.record i.index).link := by
        rw [hs1, State.path_withBank, State.path_setRecord]
      have hcontrol : s1.control = s.control := by rw [hs1]; rfl
      have hgen : ((s1.record i.index).generation + 1) % 256 = r1.generation := by rw [hr1, hrecord]
      have hrel' : releaseHeld i.index ((s1.record i.index).rollEgress c k) (s1.path .egress (s1.record i.index).link).queue k.enterService
          = (queue, k1, notes, count) := by rw [hrolled, hlink, hpath, hservice, hrel]
      rw [State.deferredRollover_of (by rw [hrecord]; exact hw) hroll, show (s1.record i.index).dir = .egress by rw [hrecord]; exact hd]
      dsimp only
      rw [State.rollEgress_eq s1 i.index .limit (by rw [hrecord]; exact hcur) (by rw [hrecord]) hrel', hrolled, hlink,
        hcontrol, hgen, hphase, hkcheck]
  · obtain ⟨w, hw⟩ := hwindow
    have hadmitted : s.admitted i key salt = s1.releaseIngressHold i.index k := by
      rw [State.admitted, if_pos ⟨hn, hd⟩, hinstalled, hkey]
    have hrecord : s1.record i.index = { s.record i.index with nxt := some k } := by
      rw [hs1, hn, if_pos rfl, State.record_withBank, State.record_setRecord_same]
    have hother : ∀ a, a ≠ i.index → s1.record a = s.record a := fun a ha => by
      rw [hs1, State.record_withBank, State.record_setRecord_ne _ _ ha]
    have hlink : (s1.record i.index).link = (s.record i.index).link := by rw [hrecord]
    have hpath : ∀ d m, s1.path d m = s.path d m := fun d m => by rw [hs1, State.path_withBank, State.path_setRecord]
    have hparams : (s1.releaseIngressHold i.index k).params = s.params := funext fun m => by
      rw [State.params_of_setup (State.setup_releaseIngressHold s1 i.index k), hs1]
      rfl
    have hsame : s1.control = s.control ∧ s1.now = s.now ∧ s1.lanes = s.lanes ∧ s1.lastGrant = s.lastGrant ∧ s1.rules = s.rules
        ∧ s1.flow = s.flow ∧ s1.device = s.device ∧ s1.prov = s.prov ∧ s1.pending = s.pending := by
      rw [hs1]
      exact ⟨rfl, rfl, rfl, rfl, rfl, rfl, rfl, rfl, rfl⟩
    rw [hn, if_pos rfl, hadmitted, hd] at hexec
    rw [hexec]
    generalize hs2 : s1.releaseIngressHold i.index k = s2 at hparams
    obtain ⟨hqueue, hfree, hphaseCount, hpnCount, hpaths, u, hcore, ulanes, ugrant, urules, uflow, udevice, uprov, ucontrol, unow, upending,
      ubank, hrecords⟩ := State.releaseIngressHold_spec hlink hw hs2.symm
    obtain ⟨-, cbank, crules, cflow, clanes, cgrant, cdevice, cprov, ccontrol, cnow, cpending⟩ := hcore
    obtain ⟨scontrol, snow, slanes, sgrant, srules, sflow, sdevice, sprov, spending⟩ := hsame
    rw [hpath, hphase] at hqueue hfree hphaseCount hpnCount
    refine ⟨s2, upending.trans (cpending.trans spending), ubank.trans cbank, ucontrol.trans (ccontrol.trans scontrol),
      unow.trans (cnow.trans snow), ulanes.trans (clanes.trans slanes), ugrant.trans (cgrant.trans sgrant), urules.trans (crules.trans srules),
      uflow.trans (cflow.trans sflow), udevice.trans (cdevice.trans sdevice), uprov.trans (cprov.trans sprov),
      fun d m h => (hpaths d m h).trans (hpath d m), ?_⟩
    rintro p entered badPhase badPn count rfl rfl rfl rfl hcount
    have hrecord2 : s2.record i.index = { s.record i.index with nxt := some { k with inFlight := count } } := by
      rw [hrecords, State.record_setRecord_same, hrecord, Record.mapKey_nxt (hphase ▸ hphases) rfl, hpath,
        hflight, hcount, hphase, Nat.zero_add]
      rfl
    refine ⟨hqueue, hfree, hphaseCount, hpnCount, hrecord2,
      fun a ha => by rw [hrecords, State.record_setRecord_ne _ _ ha, hother a ha], fun hnot => ?_, fun c hwaits hcur => ?_⟩
    · rw [State.deferredRollover_unless (by rw [hrecord2]; exact hnot)]
    · obtain ⟨hwanted, hold, hlive⟩ := hwaits
      have hroll : (s2.record i.index).canRoll = true := by
        rw [Record.canRoll_iff, hrecord2]
        exact ⟨hlive, by simp [hcur], slotIs_iff.2 ⟨_, rfl, by rw [hstate, if_pos hn]⟩, hold⟩
      have hdir2 : (s2.record i.index).dir = .ingress := by rw [hrecord2]; exact hd
      rw [State.deferredRollover_of (by rw [hrecord2]; exact hwanted) hroll, hdir2]
      dsimp only
      rw [State.rollIngress_eq s2 i.index (by rw [hrecord2]; exact hcur) (by rw [hrecord2]), hrecord2, hparams, unow, cnow, snow, htimes]
      rw [← hphase, ← hkcheck]
      rfl

end Sys2Proof.Machine
end
